-- ==== Sys2Proof/Word.lean ====
section
/-! DEFINITION. The word types of the part: a character on a line and the 16-bit check of a telegram.
Every other number of the spec is a quantity, an identifier or an enumerated value, and is a `Nat` or a type of its own. -/

namespace Sys2Proof

/-- One character of a line: 8 data bits (R159). -/
abbrev Byte := BitVec 8

/-- The 16-bit check of a telegram (R160). -/
abbrev Check := BitVec 16

end Sys2Proof
end

