-- ==== Sys2Proof/Syntax.lean ====
section
/-! DEFINITION. The commands of the part, one constructor per row of spec/opcode_table.json, and the names they share.
The fields of a request are the numbers its body carries (R172); their meaning is decided when the request is taken. -/

namespace Sys2Proof

/-- The three request ports (00_scope.md 1.4.2). -/
inductive PortId where
  | dispatch | gate | service
  deriving DecidableEq, Repr

/-- The two service stations (R67). -/
inductive Station where
  | wash | fuel
  deriving DecidableEq, Repr

/-- The four station units, in unit order W1, W2, F1, F2 (00_scope.md 1.4.2). -/
inductive UnitId where
  | w1 | w2 | f1 | f2
  deriving DecidableEq, Repr

/-- A lane 1..24, held as its number less one (R24). -/
abbrev LaneId := Fin 24

/-- Where a vehicle is, counted from the collection that holds it (R3). -/
inductive Location where
  /-- ABSENT, or PLACING unplaced -/
  | nowhere
  /-- an apron place, counted from the oldest -/
  | apron (place : Nat)
  /-- a place in a station queue, counted from the first-served -/
  | queue (st : Station) (place : Nat)
  | onUnit (u : UnitId)
  /-- a reservation in a lane -/
  | reserved (l : LaneId)
  /-- a position in a lane, exit-first -/
  | parked (l : LaneId) (position : Nat)
  deriving DecidableEq, Repr

/-- What a request carries beside its fields: the port it came on, the length of its body in bytes (R164 step 1), and
the level of the LOCK strap while it is taken (R174; log 7). -/
structure Hdr where
  port : PortId
  len : Nat
  lock : Bool
  deriving DecidableEq, Repr

/-- The fields of DEFINE_LANE (R24, R25), as sent. -/
structure LaneFields where
  lane : Nat
  kind : Nat
  capacity : Nat
  equipped : Nat
  rating : Nat
  group : Nat
  lowClearance : Nat
  shortTurn : Nat
  isOpen : Nat
  deriving DecidableEq, Repr

/-- The fields of LOAD_DUTY (R120), as sent. -/
structure DutyFields where
  number : Nat
  day : Nat
  due : Nat
  cls : Nat
  kind : Nat
  minLevel : Nat
  wash : Nat
  priority : Nat
  deriving DecidableEq, Repr

/-- The levels of the three straps (00_scope.md 1.6): true is high. -/
structure Straps where
  lock : Bool
  autold : Bool
  baud : Bool
  deriving DecidableEq, Repr

/-- The commands of the part: one constructor per row of spec/opcode_table.json, in its order. -/
inductive Instr where
  /-- TELEGRAM_RECEIVED (R160): a framed telegram with this body and check has been assembled -/
  | telegramReceived (p : PortId) (body : List Byte) (check : Check)
  /-- CHARACTER_GAP_TIMEOUT (R159) -/
  | characterGapTimeout (p : PortId)
  /-- REPLY_TRANSMITTED (R161) -/
  | replyTransmitted (p : PortId)
  /-- UNKNOWN_KIND_REQUEST (R164): the kind code, or the form, of the request is in no table (log 28) -/
  | unknownKindRequest (h : Hdr) (code : Nat)
  /-- READ_STATUS (R180) -/
  | readStatus (h : Hdr)
  /-- TAKE_NOTICE (R168) -/
  | takeNotice (h : Hdr)
  /-- READ_VEHICLE (R21) -/
  | readVehicle (h : Hdr) (fleet : Nat)
  /-- READ_LANE (R45) -/
  | readLane (h : Hdr) (lane : Nat)
  /-- READ_DUTY, form ONE (R131) -/
  | readDutyOne (h : Hdr) (duty : Nat)
  /-- READ_DUTY, form LIST (R131) -/
  | readDutyList (h : Hdr) (start : Nat)
  /-- READ_GRANTS, form GRANTS (R111) -/
  | readGrantsGrants (h : Hdr) (scope : Nat) (start : Nat)
  /-- READ_GRANTS, form LIMITS (R112) -/
  | readGrantsLimits (h : Hdr)
  /-- READ_STATION (R87) -/
  | readStation (h : Hdr) (station : Nat)
  /-- SET_CLOCK (R154) -/
  | setClock (h : Hdr) (minute : Nat) (day : Nat)
  /-- SET_PARAM (R173) -/
  | setParam (h : Hdr) (number : Nat) (value : Nat)
  /-- SET_LIMITS (R94): the four group limits and the depot limit -/
  | setLimits (h : Hdr) (l1 : Nat) (l2 : Nat) (l3 : Nat) (l4 : Nat) (depot : Nat)
  /-- SET_SCHEDULE, form PUT (R95) -/
  | setSchedulePut (h : Hdr) (minute : Nat) (limit : Nat)
  /-- SET_SCHEDULE, form REMOVE (R95) -/
  | setScheduleRemove (h : Hdr) (minute : Nat)
  /-- SET_SCHEDULE, form CLEAR (R95) -/
  | setScheduleClear (h : Hdr)
  /-- DEFINE_LANE (R25) -/
  | defineLane (h : Hdr) (d : LaneFields)
  /-- REGISTER_VEHICLE (R7) -/
  | registerVehicle (h : Hdr) (fleet : Nat) (cls : Nat) (kind : Nat) (capacity : Nat) (target : Nat)
  /-- RETIRE_VEHICLE (R9) -/
  | retireVehicle (h : Hdr) (fleet : Nat)
  /-- SET_HOLD on (R10); the last field is the on/off byte, 1 for on -/
  | setHoldOn (h : Hdr) (fleet : Nat) (on : Nat)
  /-- SET_HOLD off (R11) -/
  | setHoldOff (h : Hdr) (fleet : Nat)
  /-- LOAD_DUTY (R120) -/
  | loadDuty (h : Hdr) (d : DutyFields)
  /-- CANCEL_DUTY (R122) -/
  | cancelDuty (h : Hdr) (duty : Nat)
  /-- BIND_DUTY (R123) -/
  | bindDuty (h : Hdr) (duty : Nat) (fleet : Nat)
  /-- UNBIND_DUTY (R125) -/
  | unbindDuty (h : Hdr) (duty : Nat)
  /-- SAVE_CONFIG (R176) -/
  | saveConfig (h : Hdr)
  /-- LOAD_CONFIG (R177) -/
  | loadConfig (h : Hdr)
  /-- RESTART, the request (R179) -/
  | restart (h : Hdr)
  /-- RESTART takes effect after its reply (R179) -/
  | restartTakesEffect
  /-- GATE_IN (R47) -/
  | gateIn (h : Hdr) (fleet : Nat) (level : Nat) (wash : Nat)
  /-- GATE_OUT (R144) -/
  | gateOut (h : Hdr) (fleet : Nat)
  /-- LANE_ENTRY (R32) -/
  | laneEntry (h : Hdr) (fleet : Nat) (lane : Nat)
  /-- LANE_CONTENT (R39): the count byte and the numbers that follow it -/
  | laneContent (h : Hdr) (lane : Nat) (count : Nat) (fleets : List Nat)
  /-- PLUG (R16) -/
  | plug (h : Hdr) (fleet : Nat) (yes : Nat)
  /-- ENERGY_REPORT (R12) -/
  | energyReport (h : Hdr) (fleet : Nat) (level : Nat)
  /-- STATION_STATE (R77) -/
  | stationState (h : Hdr) (unitCode : Nat) (reported : Nat)
  /-- SERVICE_DONE (R81) -/
  | serviceDone (h : Hdr) (unitCode : Nat) (fleet : Nat) (result : Nat) (level : Nat)
  /-- MINUTE_EVENT: a minute boundary (R151) -/
  | minuteEvent
  /-- ALLOTMENT_PASS_COMPLETION (R102) -/
  | allotmentPassCompletion
  /-- STALE_METER: the staleness test of one vehicle (R91; log 9) -/
  | staleMeter (fleet : Nat)
  /-- PLACEMENT_OVERDUE: the overdue test of one vehicle (R65; log 9) -/
  | placementOverdue (fleet : Nat)
  /-- TURN_OVERRUN: the decrease that brings one unit's timer to 0 (R75; log 9) -/
  | turnOverrun (u : UnitId)
  /-- LAPSE: the lapse test of one duty (R142; log 9) -/
  | lapse (duty : Nat)
  /-- CONFIG_SAVE_COMPLETION (R176): did the flash answer and the read-back match -/
  | configSaveCompletion (ok : Bool)
  /-- CONFIG_LOAD_COMPLETION (R177): did the flash answer -/
  | configLoadCompletion (answers : Bool)
  /-- POWER_UP (R178): the strap levels, and whether the flash answers -/
  | powerUp (straps : Straps) (answers : Bool)
  /-- RESET_LINE_ASSERTION (R178) -/
  | resetLineAssertion
  /-- RESET_LINE_RELEASE (R178): the strap levels, and whether the flash answers -/
  | resetLineRelease (straps : Straps) (answers : Bool)
  /-- CHARACTER_RECEIVED (R159): one character, and whether its stop bit was missing -/
  | characterReceived (p : PortId) (c : Byte) (framingError : Bool)
  deriving DecidableEq, Repr

end Sys2Proof
end

