-- ==== Sys2Proof/WellFormed.lean ====
section
/-! DEFINITION. Which command terms stand for something that can reach the part: each field fits the byte or the two
bytes that carry it (R172), and a body has 1 to 60 bytes (R159). A well-formed request may still be refused. -/

namespace Sys2Proof

/-- The number fits one byte. -/
abbrev fitsByte (n : Nat) : Bool := n < 256

/-- The number fits two bytes. -/
abbrev fitsWord (n : Nat) : Bool := n < 65536

/-- A request body has 1 to 60 bytes (R159). -/
def Hdr.wf (h : Hdr) : Bool := 1 ≤ h.len && h.len ≤ 60

def LaneFields.wf (d : LaneFields) : Bool :=
  fitsByte d.lane && fitsByte d.kind && fitsByte d.capacity && fitsByte d.equipped && fitsWord d.rating &&
  fitsByte d.group && fitsByte d.lowClearance && fitsByte d.shortTurn && fitsByte d.isOpen

def DutyFields.wf (d : DutyFields) : Bool :=
  fitsWord d.number && fitsByte d.day && fitsWord d.due && fitsByte d.cls && fitsByte d.kind &&
  fitsWord d.minLevel && fitsByte d.wash && fitsByte d.priority

/-- The command is well formed. -/
def Instr.wf : Instr → Bool
  | .telegramReceived _ body _ => 1 ≤ body.length && body.length ≤ 60
  | .characterGapTimeout _ => true
  | .replyTransmitted _ => true
  | .unknownKindRequest h code => h.wf && fitsByte code
  | .readStatus h => h.wf
  | .takeNotice h => h.wf
  | .readVehicle h f => h.wf && fitsWord f
  | .readLane h l => h.wf && fitsByte l
  | .readDutyOne h d => h.wf && fitsWord d
  | .readDutyList h d => h.wf && fitsWord d
  | .readGrantsGrants h sc st => h.wf && fitsByte sc && fitsWord st
  | .readGrantsLimits h => h.wf
  | .readStation h st => h.wf && fitsByte st
  | .setClock h m d => h.wf && fitsWord m && fitsWord d
  | .setParam h n v => h.wf && fitsByte n && fitsWord v
  | .setLimits h a b c d e => h.wf && fitsWord a && fitsWord b && fitsWord c && fitsWord d && fitsWord e
  | .setSchedulePut h m v => h.wf && fitsWord m && fitsWord v
  | .setScheduleRemove h m => h.wf && fitsWord m
  | .setScheduleClear h => h.wf
  | .defineLane h d => h.wf && d.wf
  | .registerVehicle h f c k cap t => h.wf && fitsWord f && fitsByte c && fitsByte k && fitsWord cap && fitsWord t
  | .retireVehicle h f => h.wf && fitsWord f
  | .setHoldOn h f on => h.wf && fitsWord f && fitsByte on && on != 0
  | .setHoldOff h f => h.wf && fitsWord f
  | .loadDuty h d => h.wf && d.wf
  | .cancelDuty h d => h.wf && fitsWord d
  | .bindDuty h d f => h.wf && fitsWord d && fitsWord f
  | .unbindDuty h d => h.wf && fitsWord d
  | .saveConfig h => h.wf
  | .loadConfig h => h.wf
  | .restart h => h.wf
  | .restartTakesEffect => true
  | .gateIn h f lv w => h.wf && fitsWord f && fitsWord lv && fitsByte w
  | .gateOut h f => h.wf && fitsWord f
  | .laneEntry h f l => h.wf && fitsWord f && fitsByte l
  | .laneContent h l n fs => h.wf && fitsByte l && fitsByte n && fs.all fitsWord
  | .plug h f y => h.wf && fitsWord f && fitsByte y
  | .energyReport h f lv => h.wf && fitsWord f && fitsWord lv
  | .stationState h u r => h.wf && fitsByte u && fitsByte r
  | .serviceDone h u f r lv => h.wf && fitsByte u && fitsWord f && fitsByte r && fitsWord lv
  | .minuteEvent => true
  | .allotmentPassCompletion => true
  | .staleMeter f => fitsWord f
  | .placementOverdue f => fitsWord f
  | .turnOverrun _ => true
  | .lapse d => fitsWord d
  | .configSaveCompletion _ => true
  | .configLoadCompletion _ => true
  | .powerUp _ _ => true
  | .resetLineAssertion => true
  | .resetLineRelease _ _ => true
  | .characterReceived _ _ _ => true

end Sys2Proof
end

