-- ==== Sys2Proof/Decode.lean ====
section
/-! DEFINITION. From the body of a request telegram to the command it asks for, and back (R163, R172). The table of
commands gives no bits, so `decodeTableWord` answers none. -/

namespace Sys2Proof

/-- The command that a word of the opcode table spells: the table gives no row any bits. -/
def decodeTableWord (_nbits _w : Nat) : Option Instr := none

/-! ### Bytes (R172: high byte first) -/

/-- One byte of a field. -/
def byteOf (n : Nat) : Byte := BitVec.ofNat 8 n

/-- The two bytes of a field, high byte first. -/
def wordBytes (n : Nat) : List Byte := [byteOf (n / 256), byteOf n]

/-- The number in the byte at offset i of a body. -/
def byteAt (b : List Byte) (i : Nat) : Nat := (b.getD i 0).toNat

/-- The number in the two bytes at offset i of a body. -/
def wordAt (b : List Byte) (i : Nat) : Nat := byteAt b i * 256 + byteAt b (i + 1)

/-- The two-byte numbers of a list of bytes, in order. -/
def wordsOf : List Byte → List Nat
  | hi :: lo :: rest => (hi.toNat * 256 + lo.toNat) :: wordsOf rest
  | _ => []

/-! ### Decoding a request body -/

/-- The command that a checked request body asks for, on port p, with the LOCK strap at the level given. It is total: a
kind or a form outside the tables is `unknownKindRequest`, and a body of the wrong length keeps its length in the
header, where the request's form test finds it (R164 step 1). -/
def decodeRequest (p : PortId) (lock : Bool) (b : List Byte) : Instr :=
  let h : Hdr := ⟨p, b.length, lock⟩
  match byteAt b 0 with
  | 0x01 => .readStatus h
  | 0x02 => .takeNotice h
  | 0x03 => .readVehicle h (wordAt b 1)
  | 0x04 => .readLane h (byteAt b 1)
  | 0x05 =>
    match byteAt b 1 with
    | 1 => .readDutyOne h (wordAt b 2)
    | 2 => .readDutyList h (wordAt b 2)
    | _ => .unknownKindRequest h 0x05
  | 0x06 =>
    match byteAt b 1 with
    | 1 => .readGrantsGrants h (byteAt b 2) (wordAt b 3)
    | 2 => .readGrantsLimits h
    | _ => .unknownKindRequest h 0x06
  | 0x07 => .readStation h (byteAt b 1)
  | 0x10 => .setClock h (wordAt b 1) (wordAt b 3)
  | 0x11 => .setParam h (byteAt b 1) (wordAt b 2)
  | 0x12 => .setLimits h (wordAt b 1) (wordAt b 3) (wordAt b 5) (wordAt b 7) (wordAt b 9)
  | 0x13 =>
    match byteAt b 1 with
    | 1 => .setSchedulePut h (wordAt b 2) (wordAt b 4)
    | 2 => .setScheduleRemove h (wordAt b 2)
    | 3 => .setScheduleClear h
    | _ => .unknownKindRequest h 0x13
  | 0x14 => .defineLane h ⟨byteAt b 1, byteAt b 2, byteAt b 3, byteAt b 4, wordAt b 5, byteAt b 7, byteAt b 8,
      byteAt b 9, byteAt b 10⟩
  | 0x15 => .registerVehicle h (wordAt b 1) (byteAt b 3) (byteAt b 4) (wordAt b 5) (wordAt b 7)
  | 0x16 => .retireVehicle h (wordAt b 1)
  | 0x17 =>
    match byteAt b 3 with
    | 0 => .setHoldOff h (wordAt b 1)
    | on => .setHoldOn h (wordAt b 1) on
  | 0x18 => .loadDuty h ⟨wordAt b 1, byteAt b 3, wordAt b 4, byteAt b 6, byteAt b 7, wordAt b 8, byteAt b 10,
      byteAt b 11⟩
  | 0x19 => .cancelDuty h (wordAt b 1)
  | 0x1A => .bindDuty h (wordAt b 1) (wordAt b 3)
  | 0x1B => .unbindDuty h (wordAt b 1)
  | 0x1C => .saveConfig h
  | 0x1D => .loadConfig h
  | 0x1E => .restart h
  | 0x20 => .gateIn h (wordAt b 1) (wordAt b 3) (byteAt b 5)
  | 0x21 => .gateOut h (wordAt b 1)
  | 0x30 => .laneEntry h (wordAt b 1) (byteAt b 3)
  | 0x31 => .laneContent h (byteAt b 1) (byteAt b 2) (wordsOf (b.drop 3))
  | 0x32 => .plug h (wordAt b 1) (byteAt b 3)
  | 0x33 => .energyReport h (wordAt b 1) (wordAt b 3)
  | 0x34 => .stationState h (byteAt b 1) (byteAt b 2)
  | 0x35 => .serviceDone h (byteAt b 1) (wordAt b 2) (byteAt b 4) (wordAt b 5)
  | code => .unknownKindRequest h code

/-! ### Encoding a request body -/

/-- The body of the request telegram that asks for a command; none for a command that is not a request, or whose kind
code is in no table. -/
def encodeRequest : Instr → Option (List Byte)
  | .readStatus _ => some [0x01]
  | .takeNotice _ => some [0x02]
  | .readVehicle _ f => some (0x03 :: wordBytes f)
  | .readLane _ l => some [0x04, byteOf l]
  | .readDutyOne _ d => some (0x05 :: 1 :: wordBytes d)
  | .readDutyList _ d => some (0x05 :: 2 :: wordBytes d)
  | .readGrantsGrants _ sc st => some (0x06 :: 1 :: byteOf sc :: wordBytes st)
  | .readGrantsLimits _ => some [0x06, 2]
  | .readStation _ st => some [0x07, byteOf st]
  | .setClock _ m d => some (0x10 :: (wordBytes m ++ wordBytes d))
  | .setParam _ n v => some (0x11 :: byteOf n :: wordBytes v)
  | .setLimits _ a b c d e => some (0x12 :: (wordBytes a ++ wordBytes b ++ wordBytes c ++ wordBytes d ++ wordBytes e))
  | .setSchedulePut _ m v => some (0x13 :: 1 :: (wordBytes m ++ wordBytes v))
  | .setScheduleRemove _ m => some (0x13 :: 2 :: wordBytes m)
  | .setScheduleClear _ => some [0x13, 3]
  | .defineLane _ d => some ([0x14, byteOf d.lane, byteOf d.kind, byteOf d.capacity, byteOf d.equipped] ++
      wordBytes d.rating ++ [byteOf d.group, byteOf d.lowClearance, byteOf d.shortTurn, byteOf d.isOpen])
  | .registerVehicle _ f c k cap t => some (0x15 :: (wordBytes f ++ [byteOf c, byteOf k] ++ wordBytes cap ++ wordBytes t))
  | .retireVehicle _ f => some (0x16 :: wordBytes f)
  | .setHoldOn _ f on => some (0x17 :: (wordBytes f ++ [byteOf on]))
  | .setHoldOff _ f => some (0x17 :: (wordBytes f ++ [0]))
  | .loadDuty _ d => some (0x18 :: (wordBytes d.number ++ [byteOf d.day] ++ wordBytes d.due ++ [byteOf d.cls, byteOf d.kind] ++
      wordBytes d.minLevel ++ [byteOf d.wash, byteOf d.priority]))
  | .cancelDuty _ d => some (0x19 :: wordBytes d)
  | .bindDuty _ d f => some (0x1A :: (wordBytes d ++ wordBytes f))
  | .unbindDuty _ d => some (0x1B :: wordBytes d)
  | .saveConfig _ => some [0x1C]
  | .loadConfig _ => some [0x1D]
  | .restart _ => some [0x1E]
  | .gateIn _ f lv w => some (0x20 :: (wordBytes f ++ wordBytes lv ++ [byteOf w]))
  | .gateOut _ f => some (0x21 :: wordBytes f)
  | .laneEntry _ f l => some (0x30 :: (wordBytes f ++ [byteOf l]))
  | .laneContent _ l n fs => some (0x31 :: byteOf l :: byteOf n :: fs.flatMap wordBytes)
  | .plug _ f y => some (0x32 :: (wordBytes f ++ [byteOf y]))
  | .energyReport _ f lv => some (0x33 :: (wordBytes f ++ wordBytes lv))
  | .stationState _ u r => some [0x34, byteOf u, byteOf r]
  | .serviceDone _ u f r lv => some (0x35 :: byteOf u :: (wordBytes f ++ [byteOf r] ++ wordBytes lv))
  | .unknownKindRequest _ _ => none
  | .telegramReceived _ _ _ => none
  | .characterGapTimeout _ => none
  | .replyTransmitted _ => none
  | .restartTakesEffect => none
  | .minuteEvent => none
  | .allotmentPassCompletion => none
  | .staleMeter _ => none
  | .placementOverdue _ => none
  | .turnOverrun _ => none
  | .lapse _ => none
  | .configSaveCompletion _ => none
  | .configLoadCompletion _ => none
  | .powerUp _ _ => none
  | .resetLineAssertion => none
  | .resetLineRelease _ _ => none
  | .characterReceived _ _ _ => none

/-- The header of a request command. -/
def Instr.hdr? : Instr → Option Hdr
  | .unknownKindRequest h _ | .readStatus h | .takeNotice h | .readVehicle h _ | .readLane h _ | .readDutyOne h _
  | .readDutyList h _ | .readGrantsGrants h _ _ | .readGrantsLimits h | .readStation h _ | .setClock h _ _
  | .setParam h _ _ | .setLimits h _ _ _ _ _ | .setSchedulePut h _ _ | .setScheduleRemove h _ | .setScheduleClear h
  | .defineLane h _ | .registerVehicle h _ _ _ _ _ | .retireVehicle h _ | .setHoldOn h _ _ | .setHoldOff h _
  | .loadDuty h _ | .cancelDuty h _ | .bindDuty h _ _ | .unbindDuty h _ | .saveConfig h | .loadConfig h | .restart h
  | .gateIn h _ _ _ | .gateOut h _ | .laneEntry h _ _ | .laneContent h _ _ _ | .plug h _ _ | .energyReport h _ _
  | .stationState h _ _ | .serviceDone h _ _ _ _ => some h
  | .telegramReceived _ _ _ | .characterGapTimeout _ | .replyTransmitted _ | .restartTakesEffect | .minuteEvent
  | .allotmentPassCompletion | .staleMeter _ | .placementOverdue _ | .turnOverrun _ | .lapse _
  | .configSaveCompletion _ | .configLoadCompletion _ | .powerUp _ _ | .resetLineAssertion | .resetLineRelease _ _
  | .characterReceived _ _ _ => none

end Sys2Proof
end

