-- ==== Sys2Proof/Config.lean ====
section
/-! DEFINITION. What the spec leaves open: free values, each an opaque constant with no body, so that no proof can
see which value an implementation has. Every one has a row in the assumption log. -/

namespace Sys2Proof

/-- The pieces of work that the blocks do on one clock event: on the rollover event (R152), and on the minute event
(R151), with the change of S in effect between them (R153). -/
inductive Work where
  /-- wash-day counters, ran today (R18) -/
  | fleetRollover
  /-- the roster's rollover (R148) -/
  | rosterRollover
  /-- DAY_ROLLOVER posted (R152) -/
  | rolloverNotice
  /-- the retry sweep that ends the rollover event, where one is called for (R61) -/
  | rolloverSweep
  /-- a written service-day start becomes S in effect (R153) -/
  | dayStartChange
  /-- blocked flags of every lane after a change of S (R153) -/
  | laneKeys
  /-- the overdue test (R65) -/
  | placement
  /-- the turn timers (R75) -/
  | stations
  /-- schedule entry, staleness test, pass start (R100) -/
  | charge
  /-- lapse test, automatic binding, call scan (R135) -/
  | pullOut
  deriving DecidableEq, Repr

namespace Config

/-- FREE VALUE (log 2): the urgency with which an implementation takes each piece of work at the n-th clock event.
The spec does not order the work of different blocks (R100, R101, R151). -/
opaque workRank : Nat → Work → Nat

/-- FREE VALUE (log 11): whether a bad enumerated byte is found before a bad lane or fleet number in DEFINE_LANE and
REGISTER_VEHICLE, by the code of the request's kind, where a request has both (R164 step 5). -/
opaque enumCheckFirst : Nat → Bool

/-- FREE VALUE (log 12): whether LOAD_DUTY over an OPEN record, which has no binding, reports it as kept (R120). -/
opaque openOverwriteReportsKept : Bool

/-- FREE VALUE (log 15): the number sent in the two bytes of a jump distance that does not fit them (R154, R172). -/
opaque longDistance : Nat → BitVec 16

end Config

end Sys2Proof
end

