-- ==== Sys2Proof/Machine/State.lean ====
section
/-! DEFINITION. Everything the spec gives the part to hold, as plain data, and the part right after reset. -/

namespace Sys2Proof.Machine

/-! ### Fleet Register (R1) -/

/-- Class of a bus (R1). -/
inductive VClass where
  | midi | standard | artic | double
  deriving DecidableEq, Repr

/-- Kind of a bus (R1). -/
inductive Kind where
  | battery | fuel
  deriving DecidableEq, Repr

/-- State of a vehicle (R1, R3). -/
inductive VState where
  | absent | apron | queued | servicing | placing | parked | called
  deriving DecidableEq, Repr

/-- One side of a binding (R118): the other party's number, and whether BIND_DUTY made it. -/
structure Binding where
  other : Nat
  fixed : Bool
  deriving DecidableEq, Repr

/-- A vehicle record (R1). Location, length and key are computed, not stored (R1, R3). -/
structure Vehicle where
  number : Nat
  cls : VClass
  kind : Kind
  capacity : Nat
  target : Nat
  washDays : Nat
  level : Nat
  stale : Bool
  lastReport : Option Nat
  held : Bool
  state : VState
  route : List Station
  washOwed : Bool
  fuelOwed : Bool
  ranToday : Bool
  plugged : Bool
  grant : Nat
  binding : Option Binding
  blocked : Bool
  placedAt : Option Nat
  deriving DecidableEq, Repr

/-! ### Lane Map (R24, R27, R28) -/

inductive LaneKind where
  | through | deadend
  deriving DecidableEq, Repr

/-- A lane definition (R24). Capacity 0 is an undefined lane; group g is feeder group g + 1. -/
structure LaneDef where
  kind : LaneKind
  capacity : Nat
  equipped : Bool
  rating : Nat
  group : Fin 4
  lowClearance : Bool
  shortTurn : Bool
  isOpen : Bool
  deriving DecidableEq, Repr

/-- The default definition (R24). -/
def LaneDef.default : LaneDef := ⟨.through, 0, false, 10, 0, false, false, false⟩

/-- A lane: definition, parked list exit-first (R27), reservation list in allocation order (R28). -/
structure Lane where
  defn : LaneDef
  parked : List Nat
  reserved : List Nat
  deriving DecidableEq, Repr

/-! ### Placement Unit (R60) -/

/-- An entry of the unplaced list: the vehicle, and the port told when it is placed (R60). -/
structure Unplaced where
  fleet : Nat
  port : PortId
  deriving DecidableEq, Repr

/-! ### Station Sequencer (R67, R69, R70, R72) -/

inductive UnitState where
  | closed | ready | occupied | exitBlocked | fault
  deriving DecidableEq, Repr

/-- A unit record (R67). -/
structure StationUnit where
  state : UnitState
  vehicle : Option Nat
  timer : Option Nat
  overruns : Nat
  closing : Bool
  faultPending : Bool
  deriving DecidableEq, Repr

/-- An entry of the fuel queue: the vehicle, and whether its level is HIGH (R70). -/
structure FuelEntry where
  fleet : Nat
  high : Bool
  deriving DecidableEq, Repr

structure Stations where
  w1 : StationUnit
  w2 : StationUnit
  f1 : StationUnit
  f2 : StationUnit
  washQ : List Nat
  fuelQ : List FuelEntry
  washLong : Bool
  fuelLong : Bool
  deriving DecidableEq, Repr

/-! ### Duty Roster and call window (R115, R133) -/

inductive DayTag where
  | current | next
  deriving DecidableEq, Repr

inductive DutyState where
  | openState | bound | called | released | lapsed
  deriving DecidableEq, Repr

/-- A duty record (R115); a class or kind required of `none` is ANY. -/
structure Duty where
  number : Nat
  day : DayTag
  due : Nat
  cls : Option VClass
  kind : Option Kind
  minLevel : Nat
  wash : Bool
  high : Bool
  state : DutyState
  binding : Option Binding
  departed : Option Nat
  uncovered : Bool
  notReady : Bool
  shuntNeeded : Bool
  lowEnergy : Bool
  deriving DecidableEq, Repr

/-- An entry of the call window (R133). -/
structure WindowEntry where
  duty : Nat
  fleet : Nat
  lane : LaneId
  short : Bool
  deriving DecidableEq, Repr

/-! ### Charge Allotment Unit (R93, R95, R98, R99) -/

/-- Group limits (index g is feeder group g + 1) and depot limit (R93). -/
structure Limits where
  group : Vector Nat 4
  depot : Nat
  deriving DecidableEq, Repr

def Limits.zero : Limits := ⟨#v[0, 0, 0, 0], 0⟩

/-- An entry of the limit schedule (R95). -/
structure SchedEntry where
  minute : Nat
  limit : Nat
  deriving DecidableEq, Repr

/-- What a pass's snapshot holds of one vehicle (R98). -/
structure SnapVehicle where
  number : Nat
  lane : LaneId
  rating : Nat
  group : Fin 4
  remaining : Nat
  stale : Bool
  /-- day tag and due minute of day of the bound duty -/
  duty : Option (DayTag × Nat)
  deriving DecidableEq, Repr

/-- A pass's snapshot (R98). -/
structure Snapshot where
  limits : Limits
  pMin : Nat
  fallback : Nat
  margin : Nat
  readyBy : Nat
  topUp : Bool
  minute : Nat
  serviceMinute : Nat
  dayStart : Nat
  vehicles : List SnapVehicle
  deriving DecidableEq, Repr

/-- The Charge Allotment Unit: a pass is IN_FLIGHT exactly while `pass` holds its snapshot (R99). -/
structure Charge where
  pending : Limits
  inForce : Limits
  schedule : List SchedEntry
  pass : Option Snapshot
  rerun : Bool
  passNumber : Nat
  deriving DecidableEq, Repr

/-! ### Depot Clock (R150) -/

structure Clock where
  minute : Nat
  day : Nat
  unset : Bool
  /-- S in effect -/
  sEff : Nat
  /-- minute phase; no command advances it (log 8) -/
  phase : Nat
  deriving DecidableEq, Repr

/-! ### Configuration Store (R173, R175, R176, R179) -/

/-- The 22 parameters (R173), in their order. -/
structure Params where
  dayStart : Nat
  readyBy : Nat
  margin : Nat
  horizon : Nat
  callLead : Nat
  callWindow : Nat
  grace : Nat
  shortAtDue : Bool
  placeTimeout : Nat
  staleLimit : Nat
  pMin : Nat
  fallback : Nat
  topUp : Bool
  washInterval : Nat
  refuelBelow : Nat
  washPreset : Nat
  fuelPreset : Nat
  washLongAt : Nat
  fuelLongAt : Nat
  attnDispatch : Nat
  attnGate : Nat
  attnService : Nat
  deriving DecidableEq, Repr

/-- The defaults of R173. -/
def Params.default : Params :=
  { dayStart := 180, readyBy := 330, margin := 15, horizon := 120, callLead := 10, callWindow := 3, grace := 10
    shortAtDue := false, placeTimeout := 15, staleLimit := 5, pMin := 6, fallback := 11, topUp := true
    washInterval := 3, refuelBelow := 60, washPreset := 12, fuelPreset := 8, washLongAt := 6, fuelLongAt := 4
    attnDispatch := 16, attnGate := 16, attnService := 16 }

/-- What the image holds of one vehicle (R175). -/
structure ImageVehicle where
  number : Nat
  cls : VClass
  kind : Kind
  capacity : Nat
  target : Nat
  washDays : Nat
  deriving DecidableEq, Repr

/-- The image (R175). -/
structure Image where
  params : Params
  limits : Limits
  schedule : List SchedEntry
  lanes : Vector LaneDef 24
  vehicles : List ImageVehicle
  deriving DecidableEq, Repr

/-- The configuration operation in flight (R176, R177); a save holds its copy. -/
inductive ConfigOp where
  | idle
  | saving (copy : Image)
  | loading
  deriving DecidableEq, Repr

inductive ResetCause where
  | power | line | restart
  deriving DecidableEq, Repr

/-- The serial flash (R175): the content last written whole, or none, whether its check matches it, and the valid mark. -/
structure Flash where
  content : Option Image
  checkOk : Bool
  mark : Bool
  deriving DecidableEq, Repr

structure Store where
  cause : ResetCause
  imageInvalid : Bool
  op : ConfigOp
  flash : Flash
  deriving DecidableEq, Repr

/-- RUNNING, or held in reset by the reset line (R178). -/
inductive Power where
  | running | held
  deriving DecidableEq, Repr

/-! ### Notices (R167, R172, section 9.6) -/

inductive NoticeKind where
  | route | reallocated | placementOverdue | yardFull | noChargeBerth | blocked | mapConflict | stationCall
  | turnOverrun | queueLong | queueNormal | stationFlushed | allotmentDone | staleMeter | uncovered | notReady
  | shuntNeeded | lowEnergy | call | callWithdrawn | lapsed | unscheduledDeparture | dayRollover | configDone
  deriving DecidableEq, Repr

/-- Causes of MAP_CONFLICT (R38). -/
inductive MapCause where
  | noRoom | wrongLane | missedGate | classLimit | notAtExit | unknownInSurvey | pastCapacity | missingInSurvey
  deriving DecidableEq, Repr

/-- Causes of CALL_WITHDRAWN (R141). -/
inductive WithdrawCause where
  | laneReport | survey | hold | unbind | cancel | lapse
  deriving DecidableEq, Repr

/-- The place field of a notice (R172). -/
inductive Place where
  | lane (l : LaneId)
  | unit (u : UnitId)
  | station (st : Station)
  deriving DecidableEq, Repr

/-- A notice record (R172). -/
structure Notice where
  kind : NoticeKind
  stamp : Nat
  fleet : Option Nat
  duty : Option Nat
  place : Option Place
  value : Option Nat
  second : Option Nat
  deriving DecidableEq, Repr

/-! ### Replies (R165, R166) -/

/-- The refusal codes (R166). -/
inductive RefuseCode where
  | badForm | notPermitted | locked | unknown | stateConflict | full | busy | range | mismatch
  deriving DecidableEq, Repr

/-- The port status byte (R165). -/
structure Status where
  gauge : Nat
  empty : Bool
  overflowed : Bool
  overrun : Bool
  attention : Bool
  deriving DecidableEq, Repr

/-- READ_STATUS (R180). -/
structure StatusReport where
  cause : ResetCause
  imageInvalid : Bool
  op : ConfigOp
  lock : Bool
  autold : Bool
  baud : Bool
  unset : Bool
  minute : Nat
  day : Nat
  sEff : Nat
  params : Params
  vehicles : Nat
  duties : Nat
  deriving DecidableEq, Repr

/-- READ_VEHICLE (R21). -/
structure VehicleReport where
  record : Vehicle
  location : Location
  key : Nat
  deriving DecidableEq, Repr

/-- One parked vehicle in READ_LANE (R45). -/
structure ParkedReport where
  fleet : Nat
  state : VState
  key : Nat
  blocked : Bool
  deriving DecidableEq, Repr

/-- READ_LANE (R45). -/
structure LaneReport where
  defn : LaneDef
  occupied : Nat
  reserved : Nat
  free : Nat
  parked : List ParkedReport
  /-- fleet number and length of each reservation -/
  reservations : List (Nat × Nat)
  deriving DecidableEq, Repr

/-- What READ_DUTY ONE tells of the bound vehicle: its state, its lane and position if it has them, and its level (R131). -/
structure BoundReport where
  state : VState
  lane : Option LaneId
  position : Option Nat
  level : Nat
  deriving DecidableEq, Repr

/-- READ_DUTY ONE (R131, R133). -/
structure DutyReport where
  record : Duty
  key : Nat
  vehicle : Option BoundReport
  /-- place in the call window and short flag of a CALLED duty -/
  window : Option (Nat × Bool)
  deriving DecidableEq, Repr

/-- One record of READ_DUTY LIST (R131). -/
structure DutyLine where
  number : Nat
  day : DayTag
  state : DutyState
  key : Nat
  vehicle : Option Nat
  deriving DecidableEq, Repr

/-- READ_DUTY LIST (R131): the counts are of OPEN, BOUND, CALLED, RELEASED and LAPSED records. -/
structure DutyListReport where
  used : Nat
  counts : List Nat
  entries : List DutyLine
  more : Bool
  deriving DecidableEq, Repr

/-- One entry of READ_GRANTS GRANTS (R111). -/
structure GrantLine where
  fleet : Nat
  grant : Nat
  stale : Bool
  deriving DecidableEq, Repr

/-- READ_GRANTS GRANTS (R111). -/
structure GrantsReport where
  passNumber : Nat
  inFlight : Bool
  entries : List GrantLine
  more : Bool
  deriving DecidableEq, Repr

/-- READ_GRANTS LIMITS (R112). -/
structure LimitsReport where
  pending : Limits
  inForce : Limits
  schedule : List SchedEntry
  inFlight : Bool
  rerun : Bool
  passNumber : Nat
  deriving DecidableEq, Repr

/-- READ_STATION (R87); an entry of the wash queue has no level. -/
structure StationReport where
  unit1 : StationUnit
  unit2 : StationUnit
  isOpen : Bool
  queue : List (Nat × Option Bool)
  length : Nat
  threshold : Nat
  long : Bool
  preset : Nat
  deriving DecidableEq, Repr

/-- Classes of SET_CLOCK (R154). -/
inductive ClockClass where
  | first | same | forward | backward
  deriving DecidableEq, Repr

/-- SET_CLOCK (R154). -/
structure ClockReport where
  cls : ClockClass
  distance : Nat
  rollover : Bool
  oldMinute : Nat
  oldDay : Nat
  newMinute : Nat
  newDay : Nat
  deriving DecidableEq, Repr

/-- What LOAD_DUTY did to the record (R120). -/
inductive LoadOutcome where
  | new | kept | removed
  deriving DecidableEq, Repr

/-- BIND_DUTY (R124). -/
structure BindReport where
  state : DutyState
  key : Nat
  vehicle : Nat
  unbound : Option Nat
  vehicleState : VState
  level : Nat
  deriving DecidableEq, Repr

/-- GATE_IN (R51). -/
structure GateInReport where
  route : List Station
  skipped : List Station
  state : VState
  location : Location
  /-- lane-choice stage, where a lane was reserved -/
  stage : Option Nat
  deriving DecidableEq, Repr

/-- GATE_OUT (R146). -/
structure GateOutReport where
  release : Bool
  duty : Option Nat
  /-- short flag of the released call -/
  short : Option Bool
  state : VState
  lane : Option LaneId
  position : Option Nat
  deriving DecidableEq, Repr

/-- LANE_CONTENT (R41). -/
structure SurveyReport where
  retained : Nat
  unknown : Nat
  pastCapacity : Nat
  madeAbsent : Nat
  dropped : Nat
  deriving DecidableEq, Repr

/-- The result fields of a reply, by request. -/
inductive Result where
  | none
  | status (r : StatusReport)
  | notice (n : Notice)
  | vehicle (r : VehicleReport)
  | lane (r : LaneReport)
  | duty (r : DutyReport)
  | dutyList (r : DutyListReport)
  | grants (r : GrantsReport)
  | limits (r : LimitsReport)
  | station (r : StationReport)
  | clock (r : ClockReport)
  /-- SET_PARAM: parameter number and stored value (R173) -/
  | param (number : Nat) (value : Nat)
  /-- SET_LIMITS: the pending limits as stored (R94) -/
  | pendingLimits (l : Limits)
  /-- SET_SCHEDULE: the list as the request leaves it (R95) -/
  | schedule (l : List SchedEntry)
  /-- DEFINE_LANE: the stored definition (R25) -/
  | laneDefined (d : LaneDef)
  /-- REGISTER_VEHICLE: stored capacity and target, and whether the record is new (R7) -/
  | registered (capacity : Nat) (target : Nat) (isNew : Bool)
  | dutyLoaded (record : Duty) (key : Nat) (outcome : LoadOutcome)
  /-- CANCEL_DUTY: the state the record was in, and the vehicle unbound (R122) -/
  | dutyCancelled (state : DutyState) (unbound : Option Nat)
  | dutyBound (r : BindReport)
  /-- UNBIND_DUTY: the vehicle unbound (R125) -/
  | dutyUnbound (vehicle : Option Nat)
  | gateIn (r : GateInReport)
  | gateOut (r : GateOutReport)
  /-- LANE_ENTRY: position, and reservations dropped (R32) -/
  | entered (position : Nat) (dropped : Nat)
  | surveyed (r : SurveyReport)
  /-- STATION_STATE: the unit's state and its two flags (R77) -/
  | unitState (state : UnitState) (closing : Bool) (faultPending : Bool)
  /-- SERVICE_DONE: the vehicle's new disposition, the unit's state, the vehicle it has taken next (R82) -/
  | served (state : VState) (location : Location) (unit : UnitState) (next : Option Nat)
  deriving DecidableEq, Repr

/-- How a request was answered (00_scope.md 1.4.7). -/
inductive Answer where
  | accept (r : Result)
  | adjusted (r : Result)
  | refuse (c : RefuseCode)
  deriving DecidableEq, Repr

/-- A reply (R165): the echoed kind, the status byte, and the answer. -/
structure Reply where
  echoed : Nat
  status : Status
  answer : Answer
  deriving DecidableEq, Repr

/-! ### Request ports (R159, R161, R167) -/

/-- The receiver of a port (R159). In LENGTH, BODY and CHECK it holds what it has assembled. -/
inductive Rx where
  | hunt
  | length
  | body (len : Nat) (got : List Byte)
  /-- the whole body, and the first check byte once it has come -/
  | check (body : List Byte) (first : Option Byte)
  deriving DecidableEq, Repr

structure Port where
  rx : Rx
  /-- bodies of the requests held, oldest first (R161) -/
  fifo : List (List Byte)
  /-- the reply being transmitted; driver enable is asserted while there is one -/
  tx : Option Reply
  notices : List Notice
  overflowed : Bool
  overrun : Bool
  deriving DecidableEq, Repr

structure Ports where
  dispatch : Port
  gate : Port
  service : Port
  deriving DecidableEq, Repr

/-! ### The part -/

/-- The state of the part. -/
structure State where
  power : Power
  /-- LOCK as last seen, AUTOLD and BAUD as sampled (R174, R178) -/
  pins : Straps
  store : Store
  /-- a RESTART has been answered and has not yet taken effect (R179) -/
  restartPending : Bool
  params : Params
  clock : Clock
  /-- ascending fleet number -/
  fleet : List Vehicle
  lanes : Vector Lane 24
  apron : List Nat
  unplaced : List Unplaced
  stations : Stations
  charge : Charge
  /-- ascending duty number -/
  duties : List Duty
  window : List WindowEntry
  ports : Ports
  /-- the model's own: how many clock events have drawn a free order (log 2) -/
  freeCount : Nat
  /-- the model's own: the commands waiting, first in first out -/
  pending : List Instr
  deriving DecidableEq, Repr

/-- The work of one event on the state, with the causes it has met so far for the work that ends the event. -/
structure Ev where
  s : State
  /-- a call window slot was freed: a scan follows (R135) -/
  slot : Bool
  /-- a cause of R61: a retry sweep follows -/
  sweep : Bool
  /-- a trigger of R97: an allotment pass starts, or rerun-pending is set -/
  trigger : Bool
  deriving DecidableEq, Repr

/-! ### How a step can stop -/

/-- No command of this part faults: a request that cannot be carried out is answered REFUSE (R164), which is a next
state. The type is empty, so no step can end in one. -/
inductive Fault where
  deriving DecidableEq, Repr

/-- Reasons for a refusal by the model itself. -/
inductive Refusal where
  /-- Raised by exec's arm for a command that has no meaning yet; safe. -/
  | notModelled (mnemonic : String)
  deriving DecidableEq, Repr

/-! ### Values after reset -/

def StationUnit.reset : StationUnit := ⟨.closed, none, none, 0, false, false⟩

/-- R88. -/
def Stations.reset : Stations :=
  ⟨StationUnit.reset, StationUnit.reset, StationUnit.reset, StationUnit.reset, [], [], false, false⟩

/-- R171. -/
def Port.reset : Port := ⟨.hunt, [], none, [], false, false⟩

def Ports.reset : Ports := ⟨Port.reset, Port.reset, Port.reset⟩

/-- The part right after power-up (R178), with the straps low and no valid image in the flash (log 5): the parameters
and lanes at their defaults, the register, lanes and roster empty, the clock UNSET, and the image-invalid flag set. -/
def State.reset : State :=
  { power := .running
    pins := ⟨false, false, false⟩
    store := ⟨.power, true, .idle, ⟨none, false, false⟩⟩
    restartPending := false
    params := Params.default
    clock := ⟨0, 0, true, 180, 0⟩
    fleet := []
    lanes := Vector.replicate 24 ⟨LaneDef.default, [], []⟩
    apron := []
    unplaced := []
    stations := Stations.reset
    charge := ⟨Limits.zero, Limits.zero, [], none, false, 0⟩
    duties := []
    window := []
    ports := Ports.reset
    freeCount := 0
    pending := [] }

end Sys2Proof.Machine
end

