-- ==== Sys2Proof/Machine/Ops.lean ====
section
/-! DEFINITION. The named operations on the part's tables, lists and queues, shared by all commands: looking up and
changing one record, the collections of the yard, lengths and keys, and posting a notice. -/

namespace Sys2Proof

/-! ### Names of units, stations and locations -/

def UnitId.station : UnitId → Station
  | .w1 | .w2 => .wash
  | .f1 | .f2 => .fuel

/-- The units of a station, lower-numbered first (R74). -/
def Station.first : Station → UnitId
  | .wash => .w1
  | .fuel => .f1

def Station.second : Station → UnitId
  | .wash => .w2
  | .fuel => .f2

/-- The room of a station queue (R69, R70). -/
def Station.queueRoom : Station → Nat
  | .wash => 12
  | .fuel => 8

/-- The lane of a location, parked or reserved. -/
def Location.lane? : Location → Option LaneId
  | .reserved l => some l
  | .parked l _ => some l
  | .nowhere | .apron _ | .queue _ _ | .onUnit _ => none

/-- The position of a location, in a parked list. -/
def Location.position? : Location → Option Nat
  | .parked _ n => some n
  | .nowhere | .apron _ | .queue _ _ | .onUnit _ | .reserved _ => none

end Sys2Proof

namespace Sys2Proof.Machine

/-! ### One update per field of the state -/

def State.setPower (x : Power) (s : State) : State := { s with power := x }
def State.setPins (x : Straps) (s : State) : State := { s with pins := x }
def State.setStore (x : Store) (s : State) : State := { s with store := x }
def State.setRestartPending (x : Bool) (s : State) : State := { s with restartPending := x }
def State.setParams (x : Params) (s : State) : State := { s with params := x }
def State.setClockFields (x : Clock) (s : State) : State := { s with clock := x }
def State.setFleet (x : List Vehicle) (s : State) : State := { s with fleet := x }
def State.setLanes (x : Vector Lane 24) (s : State) : State := { s with lanes := x }
def State.setApron (x : List Nat) (s : State) : State := { s with apron := x }
def State.setUnplaced (x : List Unplaced) (s : State) : State := { s with unplaced := x }
def State.setStations (x : Stations) (s : State) : State := { s with stations := x }
def State.setCharge (x : Charge) (s : State) : State := { s with charge := x }
def State.setDuties (x : List Duty) (s : State) : State := { s with duties := x }
def State.setWindow (x : List WindowEntry) (s : State) : State := { s with window := x }
def State.setPorts (x : Ports) (s : State) : State := { s with ports := x }
def State.setFreeCount (x : Nat) (s : State) : State := { s with freeCount := x }
def State.setPending (x : List Instr) (s : State) : State := { s with pending := x }

/-! ### Lists -/

/-- Insertion into a list ordered by `before`. -/
def insertBy {α : Type} (before : α → α → Bool) (x : α) : List α → List α
  | [] => [x]
  | y :: ys => if before x y then x :: y :: ys else y :: insertBy before x ys

/-- The list ordered by `before`. -/
def sortBy {α : Type} (before : α → α → Bool) (l : List α) : List α :=
  l.foldr (insertBy before) []

/-- The place of x in a list, counted from 1. -/
def placeIn (x : Nat) (l : List Nat) : Nat := l.idxOf x + 1

/-- The list without x. -/
def without (x : Nat) (l : List Nat) : List Nat := l.filter (fun y => y != x)

/-! ### Fleet Register (R1) -/

/-- The length of a class (R1). -/
def VClass.length : VClass → Nat
  | .midi => 3
  | .standard => 4
  | .double => 4
  | .artic => 6

/-- The record that holds a fleet number (R1). -/
def State.vehicle? (s : State) (f : Nat) : Option Vehicle := s.fleet.find? (fun v => v.number == f)

/-- Change the record of one vehicle; nothing where no record holds the number. -/
def State.modVehicle (f : Nat) (g : Vehicle → Vehicle) (s : State) : State :=
  s.setFleet (s.fleet.map (fun v => if v.number == f then g v else v))

/-- Change every record. -/
def State.mapFleet (g : Vehicle → Vehicle) (s : State) : State := s.setFleet (s.fleet.map g)

/-- Length of a vehicle by its number (R1); 0 for a number no record holds. -/
def State.lengthOf (s : State) (f : Nat) : Nat :=
  match s.vehicle? f with
  | some v => v.cls.length
  | none => 0

/-- The bound duty of a vehicle. -/
def State.dutyOf (s : State) (f : Nat) : Option Nat := (s.vehicle? f).bind (fun v => v.binding.map Binding.other)

/-- A new record (R7), with the identity given. -/
def Vehicle.fresh (number : Nat) (cls : VClass) (kind : Kind) (capacity target washDays : Nat) : Vehicle :=
  { number := number, cls := cls, kind := kind, capacity := capacity, target := target, washDays := washDays
    level := 0, stale := false, lastReport := none, held := false, state := .absent, route := []
    washOwed := false, fuelOwed := false, ranToday := false, plugged := false, grant := 0, binding := none
    blocked := false, placedAt := none }

/-- A step that was skipped, failed or abandoned is owed (R6). -/
def Vehicle.owe (v : Vehicle) : Station → Vehicle
  | .wash => { v with washOwed := true }
  | .fuel => { v with fuelOwed := true }

/-- Each of these steps is owed. -/
def Vehicle.oweAll (v : Vehicle) (l : List Station) : Vehicle := l.foldl Vehicle.owe v

/-- The route is abandoned: every step still on it is owed (R6). -/
def Vehicle.abandonRoute (v : Vehicle) : Vehicle := { v.oweAll v.route with route := [] }

/-- The plugged flag is cleared: stale is cleared and the grant becomes 0 (R14, R17). -/
def Vehicle.unplug (v : Vehicle) : Vehicle := { v with plugged := false, stale := false, grant := 0 }

/-- The record on entering ABSENT (R5, R6). -/
def Vehicle.toAbsent (v : Vehicle) : Vehicle :=
  { v.abandonRoute.unplug with state := .absent, blocked := false, placedAt := none }

/-- The record on entering PARKED by a report or a survey (R5, R6, R35, R40). -/
def Vehicle.toParked (v : Vehicle) : Vehicle := { v.abandonRoute.unplug with state := .parked, placedAt := none }

/-- The step has ended: it leaves the route (R6). -/
def Vehicle.endStep (v : Vehicle) (st : Station) : Vehicle := { v with route := v.route.erase st }

/-! ### Clock and keys (R117, R150) -/

/-- The forward distance from one minute of day to another, modulo 1440 (00_scope.md 1.4.3, R158). From the service-day
start it is the service minute; from a captured minute it is the elapsed time. -/
def minutesFrom (start minute : Nat) : Nat := (minute + 1440 - start) % 1440

/-- N, the present service minute (R150). -/
def State.now (s : State) : Nat := minutesFrom s.clock.sEff s.clock.minute

/-- The key of a duty with S in effect (R117). -/
def Duty.key (dayStart : Nat) (d : Duty) : Nat :=
  match d.day with
  | .current => minutesFrom dayStart d.due
  | .next => 1440 + minutesFrom dayStart d.due

/-- The record that holds a duty number (R115). -/
def State.duty? (s : State) (n : Nat) : Option Duty := s.duties.find? (fun d => d.number == n)

/-- Change one duty record; nothing where no record holds the number. -/
def State.modDuty (n : Nat) (g : Duty → Duty) (s : State) : State :=
  s.setDuties (s.duties.map (fun d => if d.number == n then g d else d))

/-- The key of a duty record as it stands (R117). -/
def State.dutyKey (s : State) (d : Duty) : Nat := d.key s.clock.sEff

/-- The key of a vehicle record: that of its bound duty, 2880 where it has none (R117). -/
def State.vehicleKey (s : State) (v : Vehicle) : Nat :=
  match v.binding with
  | none => 2880
  | some b =>
    match s.duty? b.other with
    | some d => s.dutyKey d
    | none => 2880

/-- The key of a vehicle by its number. -/
def State.keyOf (s : State) (f : Nat) : Nat :=
  match s.vehicle? f with
  | some v => s.vehicleKey v
  | none => 2880

/-- Call order: ascending key, HIGH before NORMAL, ascending duty number (R117). -/
def State.callsBefore (s : State) (a b : Duty) : Bool :=
  decide (s.dutyKey a < s.dutyKey b) ||
  (s.dutyKey a == s.dutyKey b &&
    ((a.high && !b.high) || (a.high == b.high && decide (a.number < b.number))))

/-- The duties that satisfy a test, in call order. -/
def State.inCallOrder (s : State) (test : Duty → Bool) : List Duty := sortBy s.callsBefore (s.duties.filter test)

/-! ### Lane Map (R27 to R29) -/

/-- The lanes 1..24 in number order. -/
def allLanes : List LaneId := List.finRange 24

/-- The number of a lane at the ports. -/
def laneNumber (l : LaneId) : Nat := l.val + 1

/-- The lane that a number names, 1..24 (R24). -/
def laneOf? (n : Nat) : Option LaneId :=
  if h : 1 ≤ n ∧ n ≤ 24 then some ⟨n - 1, by omega⟩ else none

def State.lane (s : State) (l : LaneId) : Lane := s.lanes[l]

def State.modLane (l : LaneId) (g : Lane → Lane) (s : State) : State := s.setLanes (s.lanes.set l (g (s.lane l)))

/-- Total length of these vehicles. -/
def State.lengthSum (s : State) (l : List Nat) : Nat := (l.map s.lengthOf).sum

/-- Occupied length (R29). -/
def State.occupied (s : State) (l : LaneId) : Nat := s.lengthSum (s.lane l).parked

/-- Reserved length (R29). -/
def State.reservedLength (s : State) (l : LaneId) : Nat := s.lengthSum (s.lane l).reserved

/-- Free length (R29). -/
def State.freeLength (s : State) (l : LaneId) : Nat :=
  (s.lane l).defn.capacity - s.occupied l - s.reservedLength l

/-- The lane in whose parked list a vehicle stands. -/
def State.parkedLane? (s : State) (f : Nat) : Option LaneId := allLanes.find? (fun l => (s.lane l).parked.contains f)

/-- The lane in which a vehicle holds a reservation. -/
def State.reservedLane? (s : State) (f : Nat) : Option LaneId :=
  allLanes.find? (fun l => (s.lane l).reserved.contains f)

/-- A vehicle's position in a lane, exit-first from 1 (R27). -/
def State.position (s : State) (l : LaneId) (f : Nat) : Nat := placeIn f (s.lane l).parked

/-- Does the lane have the CALLED vehicle at position 1 (R36, R56)? -/
def State.headCalled? (s : State) (l : LaneId) : Option Nat :=
  match (s.lane l).parked with
  | [] => none
  | f :: _ =>
    match s.vehicle? f with
    | some v => if v.state = .called then some f else none
    | none => none

/-- A vehicle leaves a parked list; those behind it move forward (R27). -/
def State.unpark (l : LaneId) (f : Nat) (s : State) : State :=
  s.modLane l (fun x => { x with parked := without f x.parked })

/-- A reservation leaves a reservation list. -/
def State.unreserve (l : LaneId) (f : Nat) (s : State) : State :=
  s.modLane l (fun x => { x with reserved := without f x.reserved })

/-- A vehicle joins a parked list at its entry end (R27), its blocked flag taken as clear (R30). -/
def State.joinLane (l : LaneId) (f : Nat) (s : State) : State :=
  (s.modLane l (fun x =>
    match x.defn.kind with
    | .through => { x with parked := x.parked ++ [f] }
    | .deadend => { x with parked := f :: x.parked })).modVehicle f (fun v => { v with blocked := false })

/-! ### Station units and queues (R67 to R71) -/

def Stations.unit (x : Stations) : UnitId → StationUnit
  | .w1 => x.w1
  | .w2 => x.w2
  | .f1 => x.f1
  | .f2 => x.f2

def Stations.setUnit (x : Stations) (u : UnitId) (r : StationUnit) : Stations :=
  match u with
  | .w1 => { x with w1 := r }
  | .w2 => { x with w2 := r }
  | .f1 => { x with f1 := r }
  | .f2 => { x with f2 := r }

def State.unit (s : State) (u : UnitId) : StationUnit := s.stations.unit u

def State.setUnit (u : UnitId) (r : StationUnit) (s : State) : State := s.setStations (s.stations.setUnit u r)

/-- A unit with no vehicle, in the state given (R67). -/
def StationUnit.vacant (st : UnitState) : StationUnit := ⟨st, none, none, 0, false, false⟩

/-- A unit is open when READY, OCCUPIED or EXIT_BLOCKED (R68). -/
def StationUnit.isOpen (r : StationUnit) : Bool :=
  match r.state with
  | .ready | .occupied | .exitBlocked => true
  | .closed | .fault => false

/-- A station is open while one of its units is (R68). -/
def State.stationOpen (s : State) (st : Station) : Bool := (s.unit st.first).isOpen || (s.unit st.second).isOpen

/-- The vehicles of a station queue, first-served first. -/
def State.queue (s : State) : Station → List Nat
  | .wash => s.stations.washQ
  | .fuel => s.stations.fuelQ.map FuelEntry.fleet

/-- A vehicle leaves a station queue from the place it holds (R71). -/
def State.leaveQueue (st : Station) (f : Nat) (s : State) : State :=
  match st with
  | .wash => s.setStations { s.stations with washQ := without f s.stations.washQ }
  | .fuel => s.setStations { s.stations with fuelQ := s.stations.fuelQ.filter (fun e => e.fleet != f) }

/-- A fuel entry joins behind the last entry of its level (R70). -/
def joinFuel (e : FuelEntry) (q : List FuelEntry) : List FuelEntry :=
  if e.high then q.takeWhile FuelEntry.high ++ e :: q.dropWhile FuelEntry.high else q ++ [e]

/-- A vehicle joins a station queue (R69, R70); it is HIGH in the fuel queue if it has a bound duty now. -/
def State.enqueue (st : Station) (f : Nat) (s : State) : State :=
  match st with
  | .wash => s.setStations { s.stations with washQ := s.stations.washQ ++ [f] }
  | .fuel => s.setStations { s.stations with fuelQ := joinFuel ⟨f, (s.dutyOf f).isSome⟩ s.stations.fuelQ }

def allUnits : List UnitId := [.w1, .w2, .f1, .f2]

/-- The unit that holds a vehicle. -/
def State.unitOf? (s : State) (f : Nat) : Option UnitId := allUnits.find? (fun u => (s.unit u).vehicle == some f)

/-- The station in whose queue a vehicle stands. -/
def State.queueOf? (s : State) (f : Nat) : Option Station :=
  [Station.wash, Station.fuel].find? (fun st => (s.queue st).contains f)

/-! ### Location (R3) -/

/-- Where a vehicle is, counted from the collection that its state says holds it (R3). -/
def State.location (s : State) (v : Vehicle) : Location :=
  match v.state with
  | .absent => .nowhere
  | .apron => .apron (placeIn v.number s.apron)
  | .queued =>
    match s.queueOf? v.number with
    | some st => .queue st (placeIn v.number (s.queue st))
    | none => .nowhere
  | .servicing =>
    match s.unitOf? v.number with
    | some u => .onUnit u
    | none => .nowhere
  | .placing =>
    match s.reservedLane? v.number with
    | some l => .reserved l
    | none => .nowhere
  | .parked | .called =>
    match s.parkedLane? v.number with
    | some l => .parked l (s.position l v.number)
    | none => .nowhere

/-- The state of a vehicle by its number; ABSENT for a number no record holds. -/
def State.stateOf (s : State) (f : Nat) : VState :=
  match s.vehicle? f with
  | some v => v.state
  | none => .absent

/-- The location of a vehicle by its number. -/
def State.locate (s : State) (f : Nat) : Location :=
  match s.vehicle? f with
  | some v => s.location v
  | none => .nowhere

/-! ### Ports and notices (R167) -/

def Ports.get (x : Ports) : PortId → Port
  | .dispatch => x.dispatch
  | .gate => x.gate
  | .service => x.service

def Ports.set (x : Ports) (p : PortId) (r : Port) : Ports :=
  match p with
  | .dispatch => { x with dispatch := r }
  | .gate => { x with gate := r }
  | .service => { x with service := r }

def State.port (s : State) (p : PortId) : Port := s.ports.get p

def State.modPort (p : PortId) (g : Port → Port) (s : State) : State := s.setPorts (s.ports.set p (g (s.port p)))

/-- A notice joins the end of a queue of at most 32, or is discarded and the overflowed flag set (R167). -/
def Port.push (n : Notice) (x : Port) : Port :=
  if x.notices.length < 32 then { x with notices := x.notices ++ [n] } else { x with overflowed := true }

/-- A notice is posted into each destination queue separately (R167). -/
def State.post (ports : List PortId) (n : Notice) (s : State) : State :=
  ports.foldl (fun t p => t.modPort p (Port.push n)) s

/-- A notice with no field, stamped with the minute of day, which is 0 while the clock is UNSET (R150, R167). -/
def State.blank (s : State) (k : NoticeKind) : Notice := ⟨k, s.clock.minute, none, none, none, none, none⟩

/-- A notice about a vehicle: its fleet number and its bound duty, if it has one. -/
def State.about (s : State) (k : NoticeKind) (f : Nat) : Notice :=
  { s.blank k with fleet := some f, duty := s.dutyOf f }

/-! ### What a reset leaves (R22, R23, R46, R179) -/

/-- What the image keeps of a record (R175). -/
def Vehicle.image (v : Vehicle) : ImageVehicle := ⟨v.number, v.cls, v.kind, v.capacity, v.target, v.washDays⟩

/-- A record restored from the image: every dynamic field is that of a new record (R22). -/
def ImageVehicle.restore (x : ImageVehicle) : Vehicle :=
  Vehicle.fresh x.number x.cls x.kind x.capacity x.target x.washDays

/-- What RESTART keeps of a vehicle record (R23). -/
def Vehicle.restarted (v : Vehicle) : Vehicle := v.image.restore

/-- Empty lanes with the definitions given (R46). -/
def emptyLanes (l : Vector LaneDef 24) : Vector Lane 24 := l.map (fun d => ⟨d, [], []⟩)

/-- What every reset empties: the lanes' lists, the apron, the unplaced list, units, queues, roster, call window, and
ports (R46, R66, R88, R132, R149, R171). -/
def State.emptied (s : State) : State :=
  { s with
      restartPending := false, lanes := emptyLanes (s.lanes.map Lane.defn), apron := [], unplaced := []
      stations := Stations.reset, duties := [], window := [], ports := Ports.reset }

/-- RESTART takes effect (R23, R46, R66, R88, R114, R132, R149, R171, R179). -/
def State.restarted (s : State) : State :=
  { s.emptied with
      fleet := s.fleet.map Vehicle.restarted
      charge := { s.charge with pass := none, rerun := false }
      store := { s.store with cause := .restart } }

/-! ### Shared work on the causes of an event -/

/-- An event begins with no cause met. -/
def Ev.start (s : State) : Ev := ⟨s, false, false, false⟩

def Ev.map (g : State → State) (e : Ev) : Ev := { e with s := g e.s }

/-- A cause of the retry sweep has been met (R61). -/
def Ev.wantSweep (b : Bool) (e : Ev) : Ev := { e with sweep := e.sweep || b }

/-- A trigger of an allotment pass has been met (R97). -/
def Ev.wantPass (b : Bool) (e : Ev) : Ev := { e with trigger := e.trigger || b }

/-- A call window slot has been freed (R135). -/
def Ev.freeSlot (e : Ev) : Ev := { e with slot := true }

end Sys2Proof.Machine
end

