-- ==== Sys2Proof/Machine/Operands.lean ====
section
/-! DEFINITION. The values of request fields: enumerated codes (R172), ranges (R166), and the codes that notices and
replies carry (R172). -/

namespace Sys2Proof.Machine

/-! ### Ranges (R166) -/

/-- A quantity brought to the nearest end of its range (R166). -/
def clamp (lo hi n : Nat) : Nat := max lo (min hi n)

/-- An attention threshold brought to the nearer step of 4, a midway value to the higher (R170). -/
def attentionStep (n : Nat) : Nat := clamp 4 32 (4 * ((n + 2) / 4))

/-- The stored capacity for a requested one (R25). -/
def laneCapacity (n : Nat) : Nat := if n = 0 then 0 else clamp 4 48 n

/-- The stored feeder group, as an index, for a requested number (R25). -/
def groupIndex (n : Nat) : Fin 4 := ⟨clamp 1 4 n - 1, by simp only [clamp]; omega⟩

/-! ### Enumerated fields (R172): coded 1, 2, 3 in the order of their table -/

/-- A yes/no or on/off byte (R164 step 5, R172). -/
def yesNo? : Nat → Option Bool
  | 0 => some false
  | 1 => some true
  | _ => none

def class? : Nat → Option VClass
  | 1 => some .midi
  | 2 => some .standard
  | 3 => some .artic
  | 4 => some .double
  | _ => none

/-- A class required: `some none` is ANY. -/
def classRequired? (n : Nat) : Option (Option VClass) := if n = 5 then some none else (class? n).map some

def kind? : Nat → Option Kind
  | 1 => some .battery
  | 2 => some .fuel
  | _ => none

/-- A kind required: `some none` is ANY. -/
def kindRequired? (n : Nat) : Option (Option Kind) := if n = 3 then some none else (kind? n).map some

def laneKind? : Nat → Option LaneKind
  | 1 => some .through
  | 2 => some .deadend
  | _ => none

def dayTag? : Nat → Option DayTag
  | 1 => some .current
  | 2 => some .next
  | _ => none

/-- A priority: HIGH is true. -/
def priority? : Nat → Option Bool
  | 1 => some true
  | 2 => some false
  | _ => none

/-- A unit, coded as the place field of the notice record (R172). -/
def unit? : Nat → Option UnitId
  | 0x31 => some .w1
  | 0x32 => some .w2
  | 0x33 => some .f1
  | 0x34 => some .f2
  | _ => none

/-- A station, coded as the place field of the notice record (R172). -/
def station? : Nat → Option Station
  | 0x38 => some .wash
  | 0x39 => some .fuel
  | _ => none

/-- The reported states of STATION_STATE (R77). -/
inductive Reported where
  | ready | closed | fault
  deriving DecidableEq, Repr

def reported? : Nat → Option Reported
  | 1 => some .ready
  | 2 => some .closed
  | 3 => some .fault
  | _ => none

/-- The result of SERVICE_DONE (R81): OK is true. -/
def doneOk? : Nat → Option Bool
  | 1 => some true
  | 2 => some false
  | _ => none

/-! ### Codes of stored values (R172) -/

def VClass.code : VClass → Nat
  | .midi => 1 | .standard => 2 | .artic => 3 | .double => 4

def Kind.code : Kind → Nat
  | .battery => 1 | .fuel => 2

def LaneKind.code : LaneKind → Nat
  | .through => 1 | .deadend => 2

def DayTag.code : DayTag → Nat
  | .current => 1 | .next => 2

def DutyState.code : DutyState → Nat
  | .openState => 1 | .bound => 2 | .called => 3 | .released => 4 | .lapsed => 5

def UnitState.code : UnitState → Nat
  | .closed => 1 | .ready => 2 | .occupied => 3 | .exitBlocked => 4 | .fault => 5

/-- Vehicle states are coded 0 ABSENT to 6 CALLED (R172). -/
def VState.code : VState → Nat
  | .absent => 0 | .apron => 1 | .queued => 2 | .servicing => 3 | .placing => 4 | .parked => 5 | .called => 6

def ResetCause.code : ResetCause → Nat
  | .power => 1 | .line => 2 | .restart => 3

def ConfigOp.code : ConfigOp → Nat
  | .idle => 1 | .saving _ => 2 | .loading => 3

def ClockClass.code : ClockClass → Nat
  | .first => 1 | .same => 2 | .forward => 3 | .backward => 4

def LoadOutcome.code : LoadOutcome → Nat
  | .new => 1 | .kept => 2 | .removed => 3

/-- MAP_CONFLICT causes (R172). -/
def MapCause.code : MapCause → Nat
  | .noRoom => 1 | .wrongLane => 2 | .missedGate => 3 | .classLimit => 4 | .notAtExit => 5 | .unknownInSurvey => 6
  | .pastCapacity => 7 | .missingInSurvey => 8

/-- CALL_WITHDRAWN causes (R172). -/
def WithdrawCause.code : WithdrawCause → Nat
  | .laneReport => 1 | .survey => 2 | .hold => 3 | .unbind => 4 | .cancel => 5 | .lapse => 6

/-- Refusal codes (R166). -/
def RefuseCode.code : RefuseCode → Nat
  | .badForm => 1 | .notPermitted => 2 | .locked => 3 | .unknown => 4 | .stateConflict => 5 | .full => 6 | .busy => 7
  | .range => 8 | .mismatch => 9

/-- Notice kind codes (section 9.6). -/
def NoticeKind.code : NoticeKind → Nat
  | .route => 0x01 | .reallocated => 0x02 | .placementOverdue => 0x03 | .yardFull => 0x04 | .noChargeBerth => 0x05
  | .blocked => 0x06 | .mapConflict => 0x07 | .stationCall => 0x08 | .turnOverrun => 0x09 | .queueLong => 0x0A
  | .queueNormal => 0x0B | .stationFlushed => 0x0C | .allotmentDone => 0x0D | .staleMeter => 0x0E | .uncovered => 0x0F
  | .notReady => 0x10 | .shuntNeeded => 0x11 | .lowEnergy => 0x12 | .call => 0x13 | .callWithdrawn => 0x14
  | .lapsed => 0x15 | .unscheduledDeparture => 0x16 | .dayRollover => 0x17 | .configDone => 0x18

/-- A feeder group's number at the ports. -/
def groupNumber (g : Fin 4) : Nat := g.val + 1

/-- An on/off or yes/no byte. -/
def flagCode (b : Bool) : Nat := if b then 1 else 0

end Sys2Proof.Machine

namespace Sys2Proof

def UnitId.code : UnitId → Nat
  | .w1 => 0x31 | .w2 => 0x32 | .f1 => 0x33 | .f2 => 0x34

def Station.code : Station → Nat
  | .wash => 0x38 | .fuel => 0x39

end Sys2Proof
end

