-- ==== Sys2Proof/Machine/Flags.lean ====
section
/-! DEFINITION. The flags and lines that follow from the state: urgent notices and the attention line (R169), the port
status byte (R165), the long flags of the station queues (R72), and the target crossing of a level (R13). -/

namespace Sys2Proof.Machine

/-- The urgent kinds (R169). -/
def NoticeKind.urgent : NoticeKind → Bool
  | .call | .callWithdrawn | .shuntNeeded | .lapsed | .mapConflict | .yardFull | .turnOverrun => true
  | .route | .reallocated | .placementOverdue | .noChargeBerth | .blocked | .stationCall | .queueLong | .queueNormal
  | .stationFlushed | .allotmentDone | .staleMeter | .uncovered | .notReady | .lowEnergy | .unscheduledDeparture
  | .dayRollover | .configDone => false

/-- The attention threshold of a port (R170). -/
def Params.attention (x : Params) : PortId → Nat
  | .dispatch => x.attnDispatch
  | .gate => x.attnGate
  | .service => x.attnService

/-- The attention line is asserted: the level is above the threshold, or an urgent notice waits (R169). -/
def State.attention (s : State) (p : PortId) : Bool :=
  decide (s.params.attention p < (s.port p).notices.length) || (s.port p).notices.any (fun n => n.kind.urgent)

/-- Driver enable is asserted for the duration of a reply (section 9.1). -/
def State.driverEnable (s : State) (p : PortId) : Bool := (s.port p).tx.isSome

/-- The port status byte as the port stands (R165). -/
def State.status (s : State) (p : PortId) : Status :=
  { gauge := (s.port p).notices.length / 4
    empty := (s.port p).notices.isEmpty
    overflowed := (s.port p).overflowed
    overrun := (s.port p).overrun
    attention := s.attention p }

/-- The queue threshold of a station (R72). -/
def Params.longAt (x : Params) : Station → Nat
  | .wash => x.washLongAt
  | .fuel => x.fuelLongAt

/-- The preset of a station (R73). -/
def Params.preset (x : Params) : Station → Nat
  | .wash => x.washPreset
  | .fuel => x.fuelPreset

/-- The long flag of a queue (R72). -/
def Stations.long (x : Stations) : Station → Bool
  | .wash => x.washLong
  | .fuel => x.fuelLong

def Stations.setLong (x : Stations) (st : Station) (b : Bool) : Stations :=
  match st with
  | .wash => { x with washLong := b }
  | .fuel => { x with fuelLong := b }

/-- The comparison of a queue's length with its threshold (R72). -/
def State.testLong (st : Station) (s : State) : State :=
  let n := (s.queue st).length
  if !s.stations.long st && decide (s.params.longAt st < n) then
    (s.setStations (s.stations.setLong st true)).post [.service]
      { s.blank .queueLong with place := some (.station st), value := some n }
  else if s.stations.long st && decide (n ≤ s.params.longAt st) then
    (s.setStations (s.stations.setLong st false)).post [.service]
      { s.blank .queueNormal with place := some (.station st), value := some n }
  else s

/-- The length of a queue has changed since s0. -/
def State.resized (s0 s : State) (st : Station) : Bool := (s0.queue st).length != (s.queue st).length

/-- The long flags of the queues that are due are tested (R72). DESIGN CHOICE (log 33): where both are, WASH is tested
before FUEL. -/
def State.testLongs (due : Station → Bool) (s : State) : State :=
  let t := if due .wash then s.testLong .wash else s
  if due .fuel then t.testLong .fuel else t

/-- A level goes from below the target to it or above (R13). -/
def crossesUp (target before after : Nat) : Bool := decide (before < target) && decide (target ≤ after)

/-- A level goes from the target or above to below it (R13). -/
def crossesDown (target before after : Nat) : Bool := decide (target ≤ before) && decide (after < target)

end Sys2Proof.Machine
end

