-- ==== Sys2Proof/Machine/Requests.lean ====
section
/-! DEFINITION. How a request is taken: the tests of R164 in their order, the access table (R163), and the reply with its
status byte (R165). -/

namespace Sys2Proof.Machine

/-- The request kinds (R163). -/
inductive ReqKind where
  | readStatus | takeNotice | readVehicle | readLane | readDuty | readGrants | readStation
  | setClock | setParam | setLimits | setSchedule | defineLane | registerVehicle | retireVehicle | setHold
  | loadDuty | cancelDuty | bindDuty | unbindDuty | saveConfig | loadConfig | restart
  | gateIn | gateOut | laneEntry | laneContent | plug | energyReport | stationState | serviceDone
  deriving DecidableEq, Repr

/-- The kind codes (R163). -/
def ReqKind.code : ReqKind → Nat
  | .readStatus => 0x01 | .takeNotice => 0x02 | .readVehicle => 0x03 | .readLane => 0x04 | .readDuty => 0x05
  | .readGrants => 0x06 | .readStation => 0x07
  | .setClock => 0x10 | .setParam => 0x11 | .setLimits => 0x12 | .setSchedule => 0x13 | .defineLane => 0x14
  | .registerVehicle => 0x15 | .retireVehicle => 0x16 | .setHold => 0x17 | .loadDuty => 0x18 | .cancelDuty => 0x19
  | .bindDuty => 0x1A | .unbindDuty => 0x1B | .saveConfig => 0x1C | .loadConfig => 0x1D | .restart => 0x1E
  | .gateIn => 0x20 | .gateOut => 0x21
  | .laneEntry => 0x30 | .laneContent => 0x31 | .plug => 0x32 | .energyReport => 0x33 | .stationState => 0x34
  | .serviceDone => 0x35

/-- The six reads and TAKE_NOTICE, which every port may send and which are taken while a load is in flight (R163, R164). -/
def ReqKind.isRead : ReqKind → Bool
  | .readStatus | .takeNotice | .readVehicle | .readLane | .readDuty | .readGrants | .readStation => true
  | _ => false

/-- The access table (R163). -/
def ReqKind.allowed (k : ReqKind) (p : PortId) : Bool :=
  match k with
  | .readStatus | .takeNotice | .readVehicle | .readLane | .readDuty | .readGrants | .readStation => true
  | .gateIn | .gateOut => p == .gate
  | .laneEntry | .laneContent | .plug | .energyReport | .stationState | .serviceDone => p == .service
  | _ => p == .dispatch

/-- The requests refused LOCKED while the lock strap is active (R174). -/
def ReqKind.lockable : ReqKind → Bool
  | .setParam | .setLimits | .setSchedule | .defineLane | .registerVehicle | .retireVehicle | .saveConfig
  | .loadConfig => true
  | _ => false

/-- The requests refused BUSY while a save is in flight (R176). -/
def ReqKind.heldBySave : ReqKind → Bool
  | .restart => true
  | k => k.lockable

/-- The tests of R164, steps 1 to 4, in order; none where all are passed. `formOk` is the form test of step 1. -/
def refusalBefore (h : Hdr) (k : ReqKind) (formOk : Bool) (s : State) : Option RefuseCode :=
  if !formOk then some .badForm
  else if !k.allowed h.port then some .notPermitted
  else if h.lock && k.lockable then some .locked
  else
    match s.store.op with
    | .idle => none
    | .saving _ => if k.heldBySave then some .busy else none
    | .loading => if k.isRead then none else some .busy

/-- The last character of the reply has been sent: the request leaves the inbound FIFO (R161). -/
def State.endReply (p : PortId) (s : State) : State :=
  match (s.port p).tx with
  | none => s
  | some _ => s.modPort p (fun x => { x with tx := none, fifo := x.fifo.tail })

/-- The request being handled is the head of its inbound FIFO. Where the FIFO is empty, the request joins it and is taken
at once; of its body the FIFO then needs only the kind code, since only its place is read again (R161, R162; log 3). -/
def Port.holdHead (code : Nat) (x : Port) : Port :=
  match x.fifo with
  | [] => { x with fifo := [[byteOf code]] }
  | _ :: _ => x

/-- A request is taken: its port's reply before it has been sent, it is the head of its FIFO (R162; log 3), and the LOCK
strap is read (R174). -/
def State.takeRequest (h : Hdr) (code : Nat) (s : State) : State :=
  ((s.endReply h.port).modPort h.port (Port.holdHead code)).setPins { s.pins with lock := h.lock }

/-- The reply is formed, with the status byte given, and goes into transmission; the overrun flag is cleared (R161, R165). -/
def State.reply (p : PortId) (code : Nat) (st : Status) (a : Answer) (s : State) : State :=
  s.modPort p (fun x => { x with tx := some ⟨code, st, a⟩, overrun := false })

/-- The reply with the status byte as the port stands when the request's work is complete (R165). -/
def State.respond (h : Hdr) (code : Nat) (a : Answer) (s : State) : State :=
  s.reply h.port code (s.status h.port) a

/-- A RESTART has been answered, and a later request of its port is taken: the reply to the RESTART has been sent (log 3),
so the reset takes effect, which discards the request without a reply (R171, R179; log 10). -/
def State.discards (h : Hdr) (s : State) : Bool := s.restartPending && h.port == .dispatch

/-- What the part makes of a request: nothing while it is held in reset (R178); the reset where a RESTART has been answered
before it on its port (R171); else its work. -/
def State.taking (h : Hdr) (work : State → State) (s : State) : Host.Outcome State Fault Refusal :=
  match s.power with
  | .held => .next s
  | .running => .next (if s.discards h then s.restarted else work s)

/-- A request of a known kind: a refusal by the first test that fails (R164), or the work of its own rule, and the reply. -/
def State.request (h : Hdr) (k : ReqKind) (formOk : Bool) (work : State → State × Answer) (s : State) :
    Host.Outcome State Fault Refusal :=
  s.taking h (fun r =>
    let t := r.takeRequest h k.code
    match refusalBefore h k formOk t with
    | some c => t.respond h k.code (.refuse c)
    | none => (work t).1.respond h k.code (work t).2)

/-- A request that changes nothing. -/
def State.read (h : Hdr) (k : ReqKind) (formOk : Bool) (answer : State → Answer) (s : State) :
    Host.Outcome State Fault Refusal :=
  s.request h k formOk (fun t => (t, answer t))

/-- ADJUSTED where a value was brought into range, ACCEPT otherwise (R165). -/
def acceptOr (adjusted : Bool) (r : Result) : Answer := if adjusted then .adjusted r else .accept r

/-- An event that is not a request; nothing while the part is held in reset (R178). -/
def State.event (work : State → State) (s : State) : Host.Outcome State Fault Refusal :=
  match s.power with
  | .held => .next s
  | .running => .next (work s)

end Sys2Proof.Machine
end

