-- ==== Sys2Proof/Machine/Charge.lean ====
section
/-! DEFINITION. The Charge Allotment Unit (chapter 5): eligibility, staleness, the schedule, the allotment pass and its
eight stages. -/

namespace Sys2Proof.Machine

/-! ### Eligibility (R89) -/

/-- A vehicle is PARKED or CALLED in a charge-equipped lane; the lane. -/
def State.equippedLane? (s : State) (v : Vehicle) : Option LaneId :=
  if v.state = .parked ∨ v.state = .called then
    match s.parkedLane? v.number with
    | some l => if (s.lane l).defn.equipped then some l else none
    | none => none
  else none

/-- Charge-eligible (R89). -/
def State.eligible (s : State) (v : Vehicle) : Bool :=
  v.kind == .battery && (s.equippedLane? v).isSome && v.plugged && decide (v.level < v.target)

def State.eligibleNumber (s : State) (f : Nat) : Bool :=
  match s.vehicle? f with
  | some v => s.eligible v
  | none => false

/-! ### Snapshot and start of a pass (R97 to R99) -/

def State.snapVehicle? (s : State) (v : Vehicle) : Option SnapVehicle :=
  if s.eligible v then
    (s.equippedLane? v).map (fun l =>
      { number := v.number, lane := l, rating := (s.lane l).defn.rating, group := (s.lane l).defn.group
        remaining := v.target - v.level, stale := v.stale
        duty := v.binding.bind (fun b => (s.duty? b.other).map (fun d => (d.day, d.due))) })
  else none

/-- The snapshot of a pass that starts now (R98). -/
def State.snapshot (s : State) : Snapshot :=
  { limits := s.charge.pending, pMin := s.params.pMin, fallback := s.params.fallback, margin := s.params.margin
    readyBy := s.params.readyBy, topUp := s.params.topUp, minute := s.clock.minute, serviceMinute := s.now
    dayStart := s.clock.sEff, vehicles := s.fleet.filterMap s.snapVehicle? }

def State.startPass (s : State) : State := s.setCharge { s.charge with pass := some s.snapshot }

/-- A trigger: start a pass, or set rerun-pending if one is in flight; nothing while the clock is UNSET (R97). -/
def State.triggerPass (s : State) : State :=
  if s.clock.unset then s
  else
    match s.charge.pass with
    | none => s.startPass
    | some _ => s.setCharge { s.charge with rerun := true }

/-- The triggers met so far start one pass, or set rerun-pending once (R97). -/
def Ev.firePass (e : Ev) : Ev :=
  if e.trigger then { e with s := e.s.triggerPass, trigger := false } else e

/-! ### The computation (R104 to R109), from the snapshot alone -/

/-- Stage 1: the time budget (R104). -/
def Snapshot.budget (x : Snapshot) (v : SnapVehicle) : Int :=
  match v.duty with
  | some (.current, due) => (minutesFrom x.dayStart due : Int) - x.serviceMinute - x.margin
  | some (.next, due) => 1440 - (x.serviceMinute : Int) + minutesFrom x.dayStart due - x.margin
  | none =>
    let r := minutesFrom x.minute x.readyBy
    (if r = 0 then 1440 else (r : Int)) - x.margin

/-- Division rounded up. -/
def ceilDiv (a b : Nat) : Nat := (a + b - 1) / b

/-- Stage 2: the need (R105). -/
def Snapshot.need (x : Snapshot) (v : SnapVehicle) : Nat :=
  let t := x.budget v
  let n := if t ≤ 0 then v.rating else min v.rating (ceilDiv (6 * v.remaining) t.toNat)
  if v.stale then min n x.fallback else n

/-- A vehicle of the pass with its need and the grant so far. -/
structure Alloc where
  v : SnapVehicle
  need : Nat
  grant : Nat
  deriving DecidableEq, Repr

/-- Stage 3: ascending budget, then ascending fleet number (R105). -/
def Snapshot.priorTo (x : Snapshot) (a b : SnapVehicle) : Bool :=
  decide (x.budget a < x.budget b) || (x.budget a == x.budget b && decide (a.number < b.number))

def Snapshot.ordered (x : Snapshot) : List Alloc :=
  (sortBy x.priorTo x.vehicles).map (fun v => ⟨v, x.need v, 0⟩)

def allGroups : List (Fin 4) := [0, 1, 2, 3]

def inGroup (g : Fin 4) (l : List Alloc) : List Alloc := l.filter (fun a => a.v.group == g)

/-- D_g (R106). -/
def demand (g : Fin 4) (l : List Alloc) : Nat := ((inGroup g l).map Alloc.need).sum

def grantSum (l : List Alloc) : Nat := (l.map Alloc.grant).sum

/-- C_g for the four groups (R106). -/
def Snapshot.cappedDemands (x : Snapshot) (l : List Alloc) : List Nat :=
  allGroups.map (fun g => min (demand g l) x.limits.group[g])

/-- One round of the leftover: each group in turn with C_g > B_g receives 1 kW while leftover remains (R106). -/
def handRound : Nat → List (Nat × Nat) → List (Nat × Nat) × Nat
  | left, [] => ([], left)
  | 0, l => (l, 0)
  | left + 1, (c, b) :: rest =>
    if b < c then
      let r := handRound left rest
      ((c, b + 1) :: r.1, r.2)
    else
      let r := handRound (left + 1) rest
      ((c, b) :: r.1, r.2)

/-- The round is repeated while leftover remains (R106). -/
def handRounds : Nat → Nat → List (Nat × Nat) → List (Nat × Nat)
  | 0, _, l => l
  | fuel + 1, left, l =>
    if left = 0 then l
    else
      let r := handRound left l
      handRounds fuel r.2 r.1

/-- Stage 5: the group budgets out of the depot limit (R106). -/
def groupBudgets (caps : List Nat) (depot : Nat) : List Nat :=
  if caps.sum ≤ depot then caps
  else
    let floors := caps.map (fun c => c * depot / caps.sum)
    let left := depot - floors.sum
    (handRounds left left (caps.zip floors)).map Prod.snd

/-- The leftover of a group: 1 kW to each vehicle of the group whose need is above 0, in priority order (R107). -/
def handUnits (g : Fin 4) : Nat → List Alloc → List Alloc
  | _, [] => []
  | 0, l => l
  | left + 1, a :: rest =>
    if a.v.group = g ∧ 0 < a.need then { a with grant := a.grant + 1 } :: handUnits g left rest
    else a :: handUnits g (left + 1) rest

/-- Stage 6 for one group with its budget (R107). -/
def splitGroup (g : Fin 4) (budget : Nat) (l : List Alloc) : List Alloc :=
  let d := demand g l
  if d ≤ budget then l.map (fun a => if a.v.group = g then { a with grant := a.need } else a)
  else
    let floors := l.map (fun a => if a.v.group = g then { a with grant := a.need * budget / d } else a)
    handUnits g (budget - grantSum (inGroup g floors)) floors

/-- Stage 6 (R107). -/
def splitGroups (budgets : List Nat) (l : List Alloc) : List Alloc :=
  (allGroups.zip budgets).foldl (fun r p => splitGroup p.1 p.2 r) l

/-- Stage 7: grants above 0 and below P_min become 0 (R108). -/
def cutSmall (pMin : Nat) (l : List Alloc) : List Alloc :=
  l.map (fun a => if 0 < a.grant ∧ a.grant < pMin then { a with grant := 0 } else a)

/-- The cap of a vehicle in top-up (R109). -/
def Snapshot.cap (x : Snapshot) (v : SnapVehicle) : Nat := if v.stale then min v.rating x.fallback else v.rating

/-- Stage 8, vehicle by vehicle, with the headrooms of the groups and of the depot (R109). -/
def Snapshot.topUpFrom (x : Snapshot) : Vector Nat 4 → Nat → List Alloc → List Alloc
  | _, _, [] => []
  | hg, hd, a :: rest =>
    let amount := min (x.cap a.v - a.grant) (min hg[a.v.group] hd)
    if amount = 0 ∨ (a.grant = 0 ∧ amount < x.pMin) then a :: x.topUpFrom hg hd rest
    else { a with grant := a.grant + amount } ::
      x.topUpFrom (hg.set a.v.group (hg[a.v.group] - amount)) (hd - amount) rest

/-- Stage 8 (R109). -/
def Snapshot.topUpAll (x : Snapshot) (l : List Alloc) : List Alloc :=
  if x.topUp then
    x.topUpFrom (Vector.ofFn (fun g => x.limits.group[g] - grantSum (inGroup g l))) (x.limits.depot - grantSum l) l
  else l

/-- The grants that the pass computes, in priority order (R104 to R109). -/
def Snapshot.compute (x : Snapshot) : List Alloc :=
  let l := x.ordered
  let budgets := groupBudgets (x.cappedDemands l) x.limits.depot
  x.topUpAll (cutSmall x.pMin (splitGroups budgets l))

/-! ### Completion (R102) -/

/-- A grant above the fallback is lowered: to F, or to 0 where F is below P_min (R91, R92, R102). -/
def State.toFallback (s : State) (g : Nat) : Nat :=
  if s.params.fallback < g then (if s.params.fallback < s.params.pMin then 0 else s.params.fallback) else g

/-- The computed grant as it is written at completion (R102 step 1, R26). -/
def State.writtenGrant (s : State) (v : Vehicle) (l : LaneId) (g : Nat) : Nat :=
  let g1 := min g (s.lane l).defn.rating
  if v.stale then s.toFallback g1 else g1

/-- The computed grant is written if the vehicle is eligible and stands in the lane of the snapshot (R102 step 1). -/
def State.writeGrant (s : State) (a : Alloc) : State :=
  match s.vehicle? a.v.number with
  | none => s
  | some v =>
    if s.eligible v && s.parkedLane? v.number == some a.v.lane then
      s.modVehicle v.number (fun w => { w with grant := s.writtenGrant v a.v.lane a.grant })
    else s

/-- How many vehicles have another grant in t than in s. -/
def grantsChanged (s t : State) : Nat :=
  s.fleet.countP (fun v => (t.vehicle? v.number).map Vehicle.grant != some v.grant)

/-- The completion of a pass (R102); nothing where no pass is in flight. -/
def State.completePass (s : State) : State :=
  match s.charge.pass with
  | none => s
  | some x =>
    let s1 := x.compute.foldl State.writeGrant s
    let n := (s.charge.passNumber + 1) % 256
    let s2 := s1.setCharge { s1.charge with inForce := x.limits, passNumber := n, pass := none, rerun := false }
    let s3 := s2.post [.service]
      { s2.blank .allotmentDone with value := some n, second := some (grantsChanged s s1) }
    if s.charge.rerun then s3.startPass else s3

/-! ### Minute-event work (R91, R96, R100) -/

/-- Elapsed time of a captured minute at an ordinary minute event (R158). -/
def elapsed (now captured : Nat) : Nat := minutesFrom captured now

/-- Elapsed time at the minute event of a forward jump of distance d from minute m0 (R158). -/
def elapsedJump (m0 d captured : Nat) : Nat := minutesFrom captured m0 + d

/-- Has the last report expired, with the measure of elapsed time given (R91)? -/
def State.reportExpired (s : State) (age : Nat → Nat) (v : Vehicle) : Bool :=
  match v.lastReport with
  | none => true
  | some c => decide (s.params.staleLimit ≤ age c)

/-- The staleness test of one vehicle (R91). -/
def State.testStale (age : Nat → Nat) (s : State) (f : Nat) : State :=
  match s.vehicle? f with
  | none => s
  | some v =>
    if v.plugged && s.eligible v && !v.stale && s.reportExpired age v then
      (s.modVehicle f (fun w => { w with stale := true, grant := s.toFallback w.grant })).post [.service]
        { s.blank .staleMeter with
            fleet := some f, place := (s.parkedLane? f).map Place.lane, value := v.lastReport }
    else s

/-- The staleness test of every vehicle, in ascending fleet number (R91). -/
def State.testStaleAll (age : Nat → Nat) (s : State) : State :=
  (s.fleet.map Vehicle.number).foldl (State.testStale age) s

/-- Of these entries, one of the least distance before m. -/
def latestEntry (m : Nat) : List SchedEntry → Option SchedEntry
  | [] => none
  | e :: rest =>
    match latestEntry m rest with
    | none => some e
    | some b => if minutesFrom e.minute m ≤ minutesFrom b.minute m then some e else some b

/-- The schedule entry to apply: the last reached in the span of the d minutes that end with m; d is 1 for an ordinary
minute event, and the distance for a jump (R96). -/
def entryReached (m d : Nat) (l : List SchedEntry) : Option SchedEntry :=
  latestEntry m (l.filter (fun e => decide (minutesFrom e.minute m < d)))

def State.applySchedule (d : Nat) (s : State) : State :=
  match entryReached s.clock.minute d s.charge.schedule with
  | none => s
  | some e => s.setCharge { s.charge with pending := { s.charge.pending with depot := e.limit } }

/-- The unit's work on a minute event, in the order of R100. -/
def State.chargeWork (d : Nat) (age : Nat → Nat) (s : State) : State :=
  ((s.applySchedule d).testStaleAll age).triggerPass

/-! ### Limits and schedule requests (R94, R95) -/

/-- An entry replaces that of its minute, or is added in its order (R95). -/
def putEntry (e : SchedEntry) : List SchedEntry → List SchedEntry
  | [] => [e]
  | x :: rest =>
    if e.minute < x.minute then e :: x :: rest
    else if e.minute = x.minute then e :: rest
    else x :: putEntry e rest

def hasEntry (m : Nat) (l : List SchedEntry) : Bool := l.any (fun e => e.minute == m)

def removeEntry (m : Nat) (l : List SchedEntry) : List SchedEntry := l.filter (fun e => e.minute != m)

def State.setSchedule (l : List SchedEntry) (s : State) : State := s.setCharge { s.charge with schedule := l }

/-! ### Commands -/

/-- SET_LIMITS (R94). -/
def execSetLimits (h : Hdr) (l1 l2 l3 l4 depot : Nat) (s : State) : Host.Outcome State Fault Refusal :=
  s.request h .setLimits (h.len == 11) (fun t =>
    let lim : Limits := ⟨#v[min l1 2000, min l2 2000, min l3 2000, min l4 2000], min depot 4000⟩
    let adjusted := decide (2000 < l1) || decide (2000 < l2) || decide (2000 < l3) || decide (2000 < l4) ||
      decide (4000 < depot)
    ((t.setCharge { t.charge with pending := lim }).triggerPass, acceptOr adjusted (.pendingLimits lim)))

/-- SET_SCHEDULE, form PUT (R95). DESIGN CHOICE (log 37): RANGE is tested before FULL. -/
def execSetSchedulePut (h : Hdr) (minute limit : Nat) (s : State) : Host.Outcome State Fault Refusal :=
  s.request h .setSchedule (h.len == 6) (fun t =>
    if 1439 < minute then (t, .refuse .range)
    else if !hasEntry minute t.charge.schedule && decide (8 ≤ t.charge.schedule.length) then (t, .refuse .full)
    else
      let l := putEntry ⟨minute, min limit 4000⟩ t.charge.schedule
      (t.setSchedule l, acceptOr (decide (4000 < limit)) (.schedule l)))

/-- SET_SCHEDULE, form REMOVE (R95). DESIGN CHOICE (log 37): RANGE is tested before UNKNOWN. -/
def execSetScheduleRemove (h : Hdr) (minute : Nat) (s : State) : Host.Outcome State Fault Refusal :=
  s.request h .setSchedule (h.len == 4) (fun t =>
    if 1439 < minute then (t, .refuse .range)
    else if !hasEntry minute t.charge.schedule then (t, .refuse .unknown)
    else
      let l := removeEntry minute t.charge.schedule
      (t.setSchedule l, .accept (.schedule l)))

/-- SET_SCHEDULE, form CLEAR (R95). -/
def execSetScheduleClear (h : Hdr) (s : State) : Host.Outcome State Fault Refusal :=
  s.request h .setSchedule (h.len == 2) (fun t => (t.setSchedule [], .accept (.schedule [])))

/-- ALLOTMENT_PASS_COMPLETION (R102). -/
def execAllotmentPassCompletion (s : State) : Host.Outcome State Fault Refusal := s.event State.completePass

/-- STALE_METER: the staleness test of one vehicle at the present minute (R91; log 9); nothing while UNSET. -/
def execStaleMeter (fleet : Nat) (s : State) : Host.Outcome State Fault Refusal :=
  s.event (fun t => if t.clock.unset then t else t.testStale (elapsed t.clock.minute) fleet)

end Sys2Proof.Machine
end

