-- ==== Sys2Proof/Machine/LaneMap.lean ====
section
/-! DEFINITION. The blocked flags of the lanes (R30, R31), class limits (R24), and the MAP_CONFLICT notice (R38). -/

namespace Sys2Proof.Machine

/-- The blocked flag of the vehicle at one position, with the vehicles nearer the exit given; BLOCKED is posted where the
flag goes from clear to set (R30, R31). -/
def State.refreshBlocked (l : LaneId) (ahead : List Nat) (f : Nat) (s : State) : State :=
  match s.vehicle? f with
  | none => s
  | some v =>
    let now := ahead.any (fun g => decide (s.keyOf f < s.keyOf g))
    let t := s.modVehicle f (fun w => { w with blocked := now })
    if now && !v.blocked then
      t.post [.dispatch] { s.about .blocked f with place := some (.lane l), value := some (ahead.length + 1) }
    else t

/-- The vehicles of a parked list in position order from the exit (R31). -/
def State.refreshFrom (l : LaneId) : List Nat → List Nat → State → State
  | _, [], s => s
  | ahead, f :: rest, s => State.refreshFrom l (ahead ++ [f]) rest (s.refreshBlocked l ahead f)

/-- The blocked flags of a lane are recomputed (R30). -/
def State.recomputeLane (l : LaneId) (s : State) : State := s.refreshFrom l [] (s.lane l).parked

/-- The blocked flags of every lane are recomputed (R30), in ascending lane number. DESIGN CHOICE (log 32): the spec does
not order the lanes, nor so their BLOCKED notices. -/
def State.recomputeAll (s : State) : State := allLanes.foldl (fun t l => t.recomputeLane l) s

/-- The class limits of a lane exclude a class (R24). -/
def LaneDef.excludes (d : LaneDef) (c : VClass) : Bool :=
  (d.lowClearance && c == .double) || (d.shortTurn && c == .artic)

/-- MAP_CONFLICT about a vehicle in a lane, to Dispatch and Service (R38). -/
def State.mapConflict (c : MapCause) (l : LaneId) (f : Nat) (s : State) : State :=
  s.post [.dispatch, .service] { s.about .mapConflict f with place := some (.lane l), value := some c.code }

/-- MAP_CONFLICT with cause CLASS_LIMIT, where the lane's class limits exclude the vehicle (R35, R40). -/
def State.classConflict (l : LaneId) (f : Nat) (s : State) : State :=
  match s.vehicle? f with
  | none => s
  | some v => if (s.lane l).defn.excludes v.cls then s.mapConflict .classLimit l f else s

end Sys2Proof.Machine
end

