-- ==== Sys2Proof/Machine/Calls.lean ====
section
/-! DEFINITION. The call window, the call scan, withdrawals, lapses, and the hand-over of a binding change (chapter 7,
R119). -/

namespace Sys2Proof.Machine

/-! ### Bindings (R118, R119) -/

/-- Both sides of a binding are written (R118). -/
def State.bindBoth (duty fleet : Nat) (fixed : Bool) (s : State) : State :=
  (s.modDuty duty (fun d => { d with state := .bound, binding := some ⟨fleet, fixed⟩, uncovered := false })).modVehicle
    fleet (fun v => { v with binding := some ⟨duty, fixed⟩ })

/-- Both sides of a binding are removed (R118); the duty takes the state given. -/
def State.unbindBoth (duty fleet : Nat) (st : DutyState) (s : State) : State :=
  (s.modDuty duty (fun d => { d with state := st, binding := none })).modVehicle fleet
    (fun v => { v with binding := none })

/-- A vehicle whose key changed is handed over: blocked flags of its lane, and the allotment trigger (R119 steps 2, 3). -/
def Ev.handOver (f : Nat) (e : Ev) : Ev :=
  let e1 :=
    match e.s.parkedLane? f with
    | some l => e.map (fun s => s.recomputeLane l)
    | none => e
  e1.wantPass (e.s.eligibleNumber f)

/-! ### Withdrawal of a call (R140) -/

/-- The call of a CALLED vehicle is withdrawn: its slot is freed, the duty becomes BOUND and the vehicle PARKED, and
CALL_WITHDRAWN is posted. The cause may then change the duty or the vehicle further (R141). A position 1 of a DEADEND lane
that leaves CALLED is a cause of the retry sweep (R61). -/
def Ev.withdraw (f : Nat) (c : WithdrawCause) (e : Ev) : Ev :=
  match e.s.window.find? (fun w => w.fleet == f) with
  | none => e
  | some w =>
    let s1 := e.s.setWindow (e.s.window.filter (fun x => x.fleet != f))
    let s2 := s1.modDuty w.duty (fun d => { d with state := .bound })
    let s3 := s2.modVehicle f (fun v => { v with state := .parked })
    let s4 := s3.post [.gate, .dispatch]
      { s3.blank .callWithdrawn with
          fleet := some f, duty := some w.duty, place := some (.lane w.lane), value := some c.code }
    ({ e with s := s4 }.freeSlot).wantSweep ((e.s.lane w.lane).defn.kind == LaneKind.deadend)

/-- The call of a vehicle is withdrawn if it is CALLED. -/
def Ev.withdrawIfCalled (f : Nat) (c : WithdrawCause) (e : Ev) : Ev :=
  match e.s.vehicle? f with
  | none => e
  | some v => if v.state = .called then e.withdraw f c else e

/-! ### The call scan (R135 to R138) -/

/-- What the checks of R136 find for a duty and its vehicle. -/
inductive Check4 where
  | notParked
  | notAtExit (l : LaneId) (position : Nat)
  | lowEnergy (l : LaneId)
  | noRoom
  | ready (l : LaneId) (short : Bool)
  deriving DecidableEq, Repr

/-- Checks 3 and 4 of R136, at the exit of lane l. -/
def State.checkEnergyRoom (s : State) (d : Duty) (v : Vehicle) (l : LaneId) : Check4 :=
  let short := decide (v.level < d.minLevel)
  if short && !(s.params.shortAtDue && decide (s.dutyKey d ≤ s.now)) then .lowEnergy l
  else if s.params.callWindow ≤ s.window.length then .noRoom
  else .ready l short

/-- The checks of R136 in turn; the first that fails decides. -/
def State.checkCall (s : State) (d : Duty) (v : Vehicle) : Check4 :=
  match v.state with
  | .absent | .apron | .queued | .servicing | .placing => .notParked
  | .parked | .called =>
    match s.parkedLane? v.number with
    | none => .notParked
    | some l =>
      if s.position l v.number = 1 then s.checkEnergyRoom d v l else .notAtExit l (s.position l v.number)

/-- Check 1 failed: NOT_READY, once (R137). -/
def State.reportNotReady (d : Duty) (v : Vehicle) (s : State) : State :=
  if d.notReady then s
  else
    (s.modDuty d.number (fun x => { x with notReady := true })).post [.dispatch]
      { s.blank .notReady with
          fleet := some v.number, duty := some d.number
          place := (s.reservedLane? v.number).map Place.lane, value := some v.state.code }

/-- Check 2 failed: check 1 passed; SHUNT_NEEDED, once (R137). -/
def State.reportShunt (d : Duty) (v : Vehicle) (l : LaneId) (position : Nat) (s : State) : State :=
  let s1 := s.modDuty d.number (fun x => { x with notReady := false, shuntNeeded := true })
  if d.shuntNeeded then s1
  else
    s1.post [.dispatch, .service]
      { s.blank .shuntNeeded with
          fleet := some v.number, duty := some d.number, place := some (.lane l), value := some position }

/-- Check 3 failed: checks 1 and 2 passed; LOW_ENERGY, once (R137). -/
def State.reportLowEnergy (d : Duty) (v : Vehicle) (l : LaneId) (s : State) : State :=
  let s1 := s.modDuty d.number (fun x => { x with notReady := false, shuntNeeded := false, lowEnergy := true })
  if d.lowEnergy then s1
  else
    s1.post [.dispatch]
      { s.blank .lowEnergy with
          fleet := some v.number, duty := some d.number, place := some (.lane l), value := some v.level }

/-- Checks 1 to 3 were passed: their flags are cleared (R137). -/
def State.clearReadiness (n : Nat) (s : State) : State :=
  s.modDuty n (fun x => { x with notReady := false, shuntNeeded := false, lowEnergy := false })

/-- A duty is called (R138). -/
def State.callDuty (d : Duty) (v : Vehicle) (l : LaneId) (short : Bool) (s : State) : State :=
  let s1 := (s.clearReadiness d.number).modDuty d.number (fun x => { x with state := .called })
  let s2 := s1.modVehicle v.number (fun w => { w with state := .called })
  let s3 := s2.setWindow (s2.window ++ [⟨d.number, v.number, l, short⟩])
  s3.post [.gate, .dispatch]
    { s3.blank .call with
        fleet := some v.number, duty := some d.number, place := some (.lane l), value := some (flagCode short) }

/-- The duties of a scan, one after the other; a full window at check 4 ends it (R136). -/
def State.scanDuties : List Nat → State → State
  | [], s => s
  | n :: rest, s =>
    match s.duty? n with
    | none => State.scanDuties rest s
    | some d =>
      match d.binding.bind (fun b => s.vehicle? b.other) with
      | none => State.scanDuties rest s
      | some v =>
        if d.state = .bound then
          match s.checkCall d v with
          | .notParked => State.scanDuties rest (s.reportNotReady d v)
          | .notAtExit l position => State.scanDuties rest (s.reportShunt d v l position)
          | .lowEnergy l => State.scanDuties rest (s.reportLowEnergy d v l)
          | .noRoom => s.clearReadiness n
          | .ready l short => State.scanDuties rest (s.callDuty d v l short)
        else State.scanDuties rest s

/-- The duties that a scan takes: BOUND, with key less the call lead at or below N, in call order (R136). -/
def State.scanOrder (s : State) : List Nat :=
  (s.inCallOrder (fun d => d.state == .bound && decide (s.dutyKey d ≤ s.now + s.params.callLead))).map Duty.number

/-- One call scan; none while the clock is UNSET (R135). -/
def State.scan (s : State) : State := if s.clock.unset then s else State.scanDuties s.scanOrder s

/-! ### Lapse (R142, R143) -/

/-- A duty lapses, up to its notice (R142): its call withdrawn, its binding removed, LAPSED posted. -/
def Ev.lapseRecord (d : Duty) (e : Ev) : Ev :=
  match d.binding with
  | none =>
    e.map (fun s =>
      (s.modDuty d.number (fun x => { x with state := .lapsed })).post [.dispatch]
        { s.blank .lapsed with duty := some d.number, value := some (s.dutyKey d) })
  | some b =>
    let e1 := if d.state = .called then e.withdraw b.other .lapse else e
    e1.map (fun s =>
      (s.unbindBoth d.number b.other .lapsed).post [.dispatch]
        { s.blank .lapsed with
            fleet := some b.other, duty := some d.number, place := (s.locate b.other).lane?.map Place.lane
            value := some (s.dutyKey d) })

/-- The vehicle of a lapsed duty is handed over (R143). -/
def Ev.lapseDuty (d : Duty) (e : Ev) : Ev :=
  match d.binding with
  | none => e.lapseRecord d
  | some b => (e.lapseRecord d).handOver b.other

/-- A duty that can lapse: OPEN, BOUND or CALLED (R142). -/
def Duty.canLapse (d : Duty) : Bool :=
  match d.state with
  | .openState | .bound | .called => true
  | .released | .lapsed => false

/-- The grace of a duty has run out (R142). -/
def State.lapseDue (s : State) (d : Duty) : Bool := d.canLapse && decide (s.dutyKey d + s.params.grace ≤ s.now)

/-- The lapse test of a minute event, each lapse handed over before the next (R142, R143). -/
def Ev.lapseTest (e : Ev) : Ev :=
  (e.s.inCallOrder e.s.lapseDue).foldl (fun x d => (x.lapseDuty d).firePass) e

end Sys2Proof.Machine
end

