-- ==== Sys2Proof/Machine/Placement.lean ====
section
/-! DEFINITION. Serving from a queue (R73, R74), the lane choice (R56, R57), route steps and dispositions (R48 to R51,
R54), flushes and unit releases (R78, R79), reallocation (R64), and the retry sweep (R62). -/

namespace Sys2Proof.Machine

/-! ### Serving from a queue (R73, R74) -/

/-- A READY unit takes the first entry of its station's queue (R73). -/
def State.takeHead (u : UnitId) (s : State) : State :=
  if (s.unit u).state = .ready then
    match s.queue u.station with
    | [] => s
    | f :: _ =>
      let preset := s.params.preset u.station
      let s1 := s.leaveQueue u.station f
      let s2 := s1.setUnit u ⟨.occupied, some f, some preset, 0, false, false⟩
      let s3 := s2.modVehicle f (fun v => { v with state := .servicing })
      s3.post [.service] { s3.about .stationCall f with place := some (.unit u), value := some preset }
  else s

/-- The READY units of a station take from its queue, the lower-numbered first (R74). -/
def State.serve (st : Station) (s : State) : State := (s.takeHead st.first).takeHead st.second

/-! ### Lane choice (R56, R57) -/

/-- The needs-charge value (R56). -/
def Vehicle.needsCharge (v : Vehicle) : Bool := v.kind == .battery && decide (v.level < v.target)

/-- The eligible set E (R56). -/
def State.laneEligible (s : State) (v : Vehicle) (l : LaneId) : Bool :=
  let d := (s.lane l).defn
  d.capacity != 0 && d.isOpen && !d.excludes v.cls && decide (v.cls.length ≤ s.freeLength l) &&
  !(d.kind == .deadend && (s.headCalled? l).isSome)

/-- A lane is empty when both its lists are (R56). -/
def Lane.isEmpty (x : Lane) : Bool := x.parked.isEmpty && x.reserved.isEmpty

/-- The vehicle whose key is compared: the newest reservation's holder, or else the vehicle at the entry end (R56). -/
def Lane.compared? (x : Lane) : Option Nat :=
  match x.reserved.getLast? with
  | some f => some f
  | none =>
    match x.defn.kind with
    | .through => x.parked.getLast?
    | .deadend => x.parked.head?

/-- The compared key of a lane (R56). -/
def State.comparedKey (s : State) (l : LaneId) : Nat :=
  match (s.lane l).compared? with
  | some f => s.keyOf f
  | none => 2880

/-- The order of the lane holds for a key (R56). -/
def State.orderHolds (s : State) (k : Nat) (l : LaneId) : Bool :=
  match (s.lane l).defn.kind with
  | .through => decide (s.comparedKey l ≤ k)
  | .deadend => decide (k ≤ s.comparedKey l)

/-- The gap of a lane; where the order does not hold it is the violation (R56). -/
def State.gap (s : State) (k : Nat) (l : LaneId) : Nat := max k (s.comparedKey l) - min k (s.comparedKey l)

/-- The lane of the least measure, the first of these among equals. -/
def leastBy (m : LaneId → Nat) : List LaneId → Option LaneId
  | [] => none
  | l :: rest =>
    match leastBy m rest with
    | none => some l
    | some b => if m l ≤ m b then some l else some b

/-- The stages of R57, each with its candidates in lane-number order and its measure. -/
def State.stages (s : State) (v : Vehicle) : List (Nat × Option LaneId) :=
  let k := s.vehicleKey v
  let e := allLanes.filter (s.laneEligible v)
  let p := e.filter (fun l => (s.lane l).defn.equipped == v.needsCharge)
  let r := e.filter (fun l => (s.lane l).defn.equipped != v.needsCharge)
  let kept (x : List LaneId) := x.filter (fun l => !(s.lane l).isEmpty && s.orderHolds k l)
  let vacant (x : List LaneId) := x.filter (fun l => (s.lane l).isEmpty)
  let used (x : List LaneId) := x.filter (fun l => !(s.lane l).isEmpty)
  let capacity (l : LaneId) := (s.lane l).defn.capacity
  [ (1, leastBy (s.gap k) (kept p)), (2, leastBy capacity (vacant p)),
    (3, leastBy (s.gap k) (kept r)), (4, leastBy capacity (vacant r)),
    (5, leastBy (s.gap k) (used p)), (6, leastBy (s.gap k) (used r)) ]

/-- The first stage that has a candidate. -/
def firstStage : List (Nat × Option LaneId) → Option (LaneId × Nat)
  | [] => none
  | (n, some l) :: _ => some (l, n)
  | (_, none) :: rest => firstStage rest

/-- The lane choice: the lane and the stage that found it (R57). -/
def State.laneChoice (s : State) (v : Vehicle) : Option (LaneId × Nat) := firstStage (s.stages v)

/-- The lane is reserved (R58). -/
def State.reserve (f : Nat) (l : LaneId) (stage : Nat) (s : State) : State :=
  let s1 := s.modLane l (fun x => { x with reserved := x.reserved ++ [f] })
  let s2 := s1.modVehicle f (fun v => { v with state := .placing, placedAt := some s1.clock.minute })
  match s.vehicle? f with
  | none => s2
  | some v =>
    if v.needsCharge && (stage == 3 || stage == 4 || stage == 6) then
      s2.post [.dispatch] { s2.about .noChargeBerth f with place := some (.lane l), value := some stage }
    else s2

/-! ### Dispositions (R49, R50, R54) -/

/-- Where a vehicle is to go. -/
inductive Disp where
  | queue (st : Station)
  | lane (l : LaneId) (stage : Nat)
  | apron
  | nowhere
  deriving DecidableEq, Repr

/-- A disposition worked out for a vehicle: the steps skipped, the route left, and where it goes. -/
structure Plan where
  skipped : List Station
  route : List Station
  disp : Disp
  deriving DecidableEq, Repr

/-- A route step is taken (R49). -/
def State.stepTaken (s : State) (st : Station) : Bool :=
  decide ((s.queue st).length < st.queueRoom) && s.stationOpen st

/-- The steps skipped at the head of a route, and the rest (R49). -/
def State.splitRoute (s : State) : List Station → List Station × List Station
  | [] => ([], [])
  | st :: rest => if s.stepTaken st then ([], st :: rest) else (st :: (s.splitRoute rest).1, (s.splitRoute rest).2)

/-- Lane choice, then the apron (R50, R54, R62, R64). -/
def State.berth (s : State) (v : Vehicle) : Disp :=
  match s.laneChoice v with
  | some (l, stage) => .lane l stage
  | none => if s.apron.length < 8 then .apron else .nowhere

/-- The disposition of a vehicle with the route given (R50, R54). -/
def State.plan (s : State) (v : Vehicle) (route : List Station) : Plan :=
  let r := s.splitRoute route
  match r.2 with
  | st :: _ => ⟨r.1, r.2, .queue st⟩
  | [] => ⟨r.1, [], s.berth v⟩

/-- The vehicle joins the end of the apron (R59). -/
def State.joinApron (f : Nat) (s : State) : State :=
  (s.setApron (s.apron ++ [f])).modVehicle f (fun v => { v with state := .apron, placedAt := none })

/-- The vehicle joins the end of the unplaced list, with the port to be told (R60). -/
def State.joinUnplaced (f : Nat) (p : PortId) (s : State) : State :=
  (s.setUnplaced (s.unplaced ++ [⟨f, p⟩])).modVehicle f
    (fun v => { v with state := .placing, placedAt := some s.clock.minute })

/-- The vehicle joins a station queue, and a READY unit of the station serves at once (R51, R73). -/
def State.joinQueue (st : Station) (f : Nat) (s : State) : State :=
  ((s.enqueue st f).modVehicle f (fun v => { v with state := .queued, placedAt := none })).serve st

/-- The vehicle enters its disposition; nothing where it has nowhere to go. -/
def State.enter (f : Nat) (d : Disp) (s : State) : State :=
  match d with
  | .queue st => s.joinQueue st f
  | .lane l stage => s.reserve f l stage
  | .apron => s.joinApron f
  | .nowhere => s

/-- The skipped steps are owed, the route is what is left, and the vehicle enters its disposition (R51, R54). -/
def State.carryOut (f : Nat) (p : Plan) (s : State) : State :=
  (s.modVehicle f (fun v => { v.oweAll p.skipped with route := p.route })).enter f p.disp

/-! ### Continuations told by a ROUTE notice (R55, R63) -/

/-- ROUTE, with the disposition of the vehicle as it stands (R63). -/
def State.tellRoute (p : PortId) (f : Nat) (s : State) : State :=
  let n := s.about .route f
  s.post [p]
    (match s.locate f with
    | .reserved l => { n with place := some (.lane l) }
    | .apron place => { n with value := some place }
    | .queue st place => { n with place := some (.station st), value := some place }
    | .onUnit u => { n with place := some (.unit u) }
    | .nowhere | .parked _ _ => n)

/-- The route of a vehicle handed back by a fault or a flush is continued; where nothing takes it, it is left unplaced
with the Service port recorded (R54, R55, R60). -/
def State.continueRoute (f : Nat) (s : State) : State :=
  match s.vehicle? f with
  | none => s
  | some v =>
    let p := s.plan v v.route
    let s1 := s.carryOut f p
    let s2 := match p.disp with
      | .nowhere => s1.joinUnplaced f .service
      | .queue _ | .lane _ _ | .apron => s1
    s2.tellRoute .service f

/-! ### Flush and release (R78, R79) -/

/-- One vehicle of a flush (R79). -/
def State.flushOne (st : Station) (s : State) (f : Nat) : State :=
  ((s.leaveQueue st f).modVehicle f (fun v => (v.endStep st).owe st)).continueRoute f

/-- The queue of a station that has shut is flushed (R79). -/
def State.flush (st : Station) (s : State) : State :=
  (s.queue st).foldl (State.flushOne st)
    (s.post [.service, .dispatch]
      { s.blank .stationFlushed with place := some (.station st), value := some (s.queue st).length })

/-- The station test after a change of a unit's state: a station that went from open to shut is flushed (R68). -/
def State.stationTest (wasOpen : Bool) (st : Station) (s : State) : State :=
  if wasOpen && !s.stationOpen st then s.flush st else s

/-- The state that a unit takes when its vehicle leaves (R78). -/
def StationUnit.released (r : StationUnit) : UnitState :=
  if r.faultPending then .fault else if r.closing then .closed else .ready

/-- The vehicle leaves a unit, which takes the state that its flags give (R78). -/
def State.vacate (u : UnitId) (s : State) : State := s.setUnit u (StationUnit.vacant (s.unit u).released)

/-- What follows at a station whose units have been released: a READY unit takes from the queue (R73), and the station is
tested against whether it was open before (R68). -/
def State.settle (wasOpen : Bool) (st : Station) (s : State) : State := (s.serve st).stationTest wasOpen st

/-- The vehicle leaves a unit: the unit is released and serves, or its station is tested (R78). -/
def State.releaseUnit (u : UnitId) (s : State) : State := (s.vacate u).settle (s.stationOpen u.station) u.station

/-! ### Reallocation (R64) -/

/-- A holder whose reservation in a lane was dropped is given a new place, and REALLOCATED is posted (R64). -/
def State.reallocate (dropped : LaneId) (s : State) (f : Nat) : State :=
  match s.vehicle? f with
  | none => s
  | some v =>
    let n := { s.about .reallocated f with value := some (laneNumber dropped) }
    match s.berth v with
    | .lane l stage => (s.post [.gate] { n with place := some (.lane l) }).reserve f l stage
    | .apron => (s.post [.gate] { n with second := some (s.apron.length + 1) }).joinApron f
    | .nowhere | .queue _ => (s.post [.gate] n).joinUnplaced f .gate

/-! ### The retry sweep (R61 to R63) -/

/-- Group 1: one entry of the unplaced list (R62). -/
def State.sweepUnplaced (s : State) (x : Unplaced) : State :=
  match s.vehicle? x.fleet with
  | none => s
  | some v =>
    let left := s.setUnplaced (s.unplaced.filter (fun y => y.fleet != x.fleet))
    match s.berth v with
    | .nowhere | .queue _ => s
    | .lane l stage => (left.enter x.fleet (.lane l stage)).tellRoute x.port x.fleet
    | .apron => (left.enter x.fleet .apron).tellRoute x.port x.fleet

/-- Group 2: one vehicle of the apron (R62). -/
def State.sweepApron (s : State) (f : Nat) : State :=
  match s.vehicle? f with
  | none => s
  | some v =>
    match s.laneChoice v with
    | none => s
    | some (l, stage) => ((s.setApron (without f s.apron)).reserve f l stage).tellRoute .gate f

/-- Group 3: one unit, if it is EXIT_BLOCKED (R62). -/
def State.sweepUnit (s : State) (u : UnitId) : State :=
  if (s.unit u).state = .exitBlocked then
    match (s.unit u).vehicle.bind s.vehicle? with
    | none => s
    | some v =>
      match s.berth v with
      | .nowhere | .queue _ => s
      | .lane l stage => ((s.enter v.number (.lane l stage)).tellRoute .service v.number).releaseUnit u
      | .apron => ((s.enter v.number .apron).tellRoute .service v.number).releaseUnit u
  else s

/-- A retry sweep (R62): the unplaced vehicles, those that waited on the apron, exit-blocked units. A vehicle that joins the apron
in the first group is not tried again in the second. -/
def State.sweep (s : State) : State :=
  allUnits.foldl State.sweepUnit (s.apron.foldl State.sweepApron (s.unplaced.foldl State.sweepUnplaced s))

/-! ### The end of an event -/

/-- The retry sweep that ends an event (R61), with the long flag of a queue whose length the sweep changed tested after it
(R72; log 33). -/
def State.sweepEnd (s : State) : State := s.sweep.testLongs (s.resized s.sweep)

/-- The scan of a freed slot (R135), and after it the retry sweep (R61). -/
def Ev.close (e : Ev) (s : State) : State :=
  let t := if e.slot then s.scan else s
  if e.sweep then t.sweep else t

/-- The work that ends an event: the allotment trigger (R97), the scan of a freed slot (R135), the retry sweep after every
other part (R61), and for each queue that the event changed one test of its long flag, with the length as the event leaves it
(R72); s0 is the state before the event. DESIGN CHOICE (log 33): a queue that the sweep leaves as it is is tested before the
scan and the sweep, whose notices follow the event's own (R79, R83, R135); one whose length the sweep changes is tested after
it. -/
def Ev.finish (s0 : State) (e : Ev) : State :=
  let s1 := e.firePass.s
  let last := e.close s1
  let s2 := s1.testLongs (fun st => s0.resized s1 st && !s1.resized last st)
  (e.close s2).testLongs (s1.resized last)

end Sys2Proof.Machine
end

