-- ==== Sys2Proof/Machine/Fleet.lean ====
section
/-! DEFINITION. The commands of the Fleet Register (chapter 1): registration, retirement, hold, energy and plug reports. -/

namespace Sys2Proof.Machine

/-- The record joins the register, which stands in ascending fleet number (log 26). -/
def State.addVehicle (v : Vehicle) (s : State) : State :=
  s.setFleet (insertBy (fun a b => decide (a.number < b.number)) v s.fleet)

/-- The stored capacity and target for the requested ones (R8). -/
def storedEnergy (k : Kind) (capacity target : Nat) : Nat × Nat :=
  match k with
  | .battery => (clamp 100 10000 capacity, clamp 1 (clamp 100 10000 capacity) target)
  | .fuel => (100, 100)

/-- A vehicle of this class and kind matches a duty (R118). -/
def Duty.matchesKind (d : Duty) (c : VClass) (k : Kind) : Bool :=
  (d.cls == none || d.cls == some c) && (d.kind == none || d.kind == some k)

/-- The update of an ABSENT record (R8). -/
def Vehicle.reidentify (v : Vehicle) (c : VClass) (k : Kind) (capacity target : Nat) : Vehicle :=
  { v with
      cls := c, kind := k, capacity := capacity, target := target
      level := if v.kind = k then min v.level capacity else 0
      lastReport := if v.kind = k then v.lastReport else none }

/-- The work of REGISTER_VEHICLE once its fields are understood (R7, R8). -/
def State.registerWork (f : Nat) (c : VClass) (k : Kind) (capacity target : Nat) (s : State) : State × Answer :=
  let e := storedEnergy k capacity target
  let adjusted := decide (e ≠ (capacity, target))
  match s.vehicle? f with
  | none =>
    if 192 ≤ s.fleet.length then (s, .refuse .full)
    else (s.addVehicle (Vehicle.fresh f c k e.1 e.2 0), acceptOr adjusted (.registered e.1 e.2 true))
  | some v =>
    if v.state ≠ .absent then (s, .refuse .stateConflict)
    else
      let fits :=
        match v.binding.bind (fun b => s.duty? b.other) with
        | none => true
        | some d => d.matchesKind c k
      if fits then
        (s.modVehicle f (fun w => w.reidentify c k e.1 e.2), acceptOr adjusted (.registered e.1 e.2 false))
      else (s, .refuse .mismatch)

/-- REGISTER_VEHICLE (R7, R8). Where both a code and the fleet number are bad, which is found first is free (log 11). DESIGN
CHOICE (log 11): a bad code is found before FULL, STATE_CONFLICT and MISMATCH. -/
def execRegisterVehicle (h : Hdr) (fleet cls kind capacity target : Nat) (s : State) :
    Host.Outcome State Fault Refusal :=
  s.request h .registerVehicle (h.len == 9) (fun t =>
    let inRange := decide (1 ≤ fleet) && decide (fleet ≤ 9999)
    match class? cls, kind? kind, inRange with
    | some c, some k, true => t.registerWork fleet c k capacity target
    | some _, some _, false => (t, .refuse .range)
    | none, _, true => (t, .refuse .badForm)
    | _, none, true => (t, .refuse .badForm)
    | none, _, false => (t, .refuse (if Config.enumCheckFirst 0x15 then .badForm else .range))
    | _, none, false => (t, .refuse (if Config.enumCheckFirst 0x15 then .badForm else .range)))

/-- RETIRE_VEHICLE (R9). -/
def execRetireVehicle (h : Hdr) (fleet : Nat) (s : State) : Host.Outcome State Fault Refusal :=
  s.request h .retireVehicle (h.len == 3) (fun t =>
    match t.vehicle? fleet with
    | none => (t, .refuse .unknown)
    | some v =>
      if v.state = .absent ∧ v.binding = none then
        (t.setFleet (t.fleet.filter (fun w => w.number != fleet)), .accept .none)
      else (t, .refuse .stateConflict))

/-- SET_HOLD on for a vehicle that is not held: the call is withdrawn, the binding removed, the held flag set, and the
binding change handed over (R10, R119). -/
def Ev.hold (f : Nat) (e : Ev) : Ev :=
  let e1 := e.withdrawIfCalled f .hold
  match (e1.s.vehicle? f).bind Vehicle.binding with
  | none => e1.map (State.modVehicle f (fun v => { v with held := true }))
  | some b =>
    (e1.map (fun s => (s.unbindBoth b.other f .openState).modVehicle f (fun v => { v with held := true }))).handOver f

/-- SET_HOLD on (R10). DESIGN CHOICE (log 42): an on/off byte that is neither is refused BAD_FORM, as that of a yes/no field is
(R164 step 5), before an unregistered number is refused UNKNOWN. -/
def execSetHoldOn (h : Hdr) (fleet on : Nat) (s : State) : Host.Outcome State Fault Refusal :=
  s.request h .setHold (h.len == 4) (fun t =>
    if on ≠ 1 then (t, .refuse .badForm)
    else
      match t.vehicle? fleet with
      | none => (t, .refuse .unknown)
      | some v => if v.held then (t, .accept .none) else (((Ev.start t).hold fleet).finish t, .accept .none))

/-- SET_HOLD off (R11). -/
def execSetHoldOff (h : Hdr) (fleet : Nat) (s : State) : Host.Outcome State Fault Refusal :=
  s.request h .setHold (h.len == 4) (fun t =>
    match t.vehicle? fleet with
    | none => (t, .refuse .unknown)
    | some _ => (t.modVehicle fleet (fun v => { v with held := false }), .accept .none))

/-- The record after an accepted ENERGY_REPORT (R12, R13, R17). -/
def Vehicle.reported (v : Vehicle) (level minute : Nat) : Vehicle :=
  { v with
      level := level, lastReport := some minute
      stale := if v.kind = .battery then false else v.stale
      grant := if v.kind = .battery ∧ crossesUp v.target v.level level = true then 0 else v.grant }

/-- ENERGY_REPORT (R12, R13). -/
def execEnergyReport (h : Hdr) (fleet level : Nat) (s : State) : Host.Outcome State Fault Refusal :=
  s.request h .energyReport (h.len == 5) (fun t =>
    match t.vehicle? fleet with
    | none => (t, .refuse .unknown)
    | some v =>
      if v.state = .absent then (t, .refuse .stateConflict)
      else
        let lv := min level v.capacity
        let crossed := v.kind == .battery && (crossesUp v.target v.level lv || crossesDown v.target v.level lv)
        let t1 := t.modVehicle fleet (fun w => w.reported lv t.clock.minute)
        (if crossed then t1.triggerPass else t1, acceptOr (decide (v.capacity < level)) .none))

/-- PLUG (R16). -/
def execPlug (h : Hdr) (fleet yes : Nat) (s : State) : Host.Outcome State Fault Refusal :=
  s.request h .plug (h.len == 4) (fun t =>
    match yesNo? yes with
    | none => (t, .refuse .badForm)
    | some on =>
      match t.vehicle? fleet with
      | none => (t, .refuse .unknown)
      | some v =>
        if v.kind = .battery ∧ (t.equippedLane? v).isSome = true then
          if v.plugged = on then (t, .accept .none)
          else if on then
            ((t.modVehicle fleet (fun w => { w with plugged := true })).triggerPass, .accept .none)
          else ((t.modVehicle fleet Vehicle.unplug).triggerPass, .accept .none)
        else (t, .refuse .stateConflict))

end Sys2Proof.Machine
end

