-- ==== Sys2Proof/Machine/Roster.lean ====
section
/-! DEFINITION. The Duty Roster (chapter 6): the four requests of the scheduling computer, and automatic binding. -/

namespace Sys2Proof.Machine

/-! ### Matching (R118) -/

/-- The wash condition (R118). -/
def Duty.washMet (d : Duty) (v : Vehicle) : Bool := !d.wash || !v.washOwed

/-- The vehicle matches the duty and meets its wash condition (R118). -/
def Duty.suits (d : Duty) (v : Vehicle) : Bool := d.matchesKind v.cls v.kind && d.washMet v

/-! ### LOAD_DUTY (R120, R121) -/

/-- The greatest minimum release level of a kind required (R120). -/
def maxRelease : Option Kind → Nat
  | some .fuel => 100
  | some .battery => 10000
  | none => 10000

/-- The requested fields of LOAD_DUTY as a record that is OPEN, unbound, with no notice flag set (R120); none where an
enumerated value is bad. -/
def parseDuty (d : DutyFields) : Option Duty :=
  match dayTag? d.day, classRequired? d.cls, kindRequired? d.kind, priority? d.priority, yesNo? d.wash with
  | some day, some cls, some kind, some high, some wash =>
    some { number := d.number, day := day, due := d.due, cls := cls, kind := kind
           minLevel := min d.minLevel (maxRelease kind), wash := wash, high := high
           state := .openState, binding := none, departed := none
           uncovered := false, notReady := false, shuntNeeded := false, lowEnergy := false }
  | _, _, _, _, _ => none

/-- The record joins the roster, which stands in ascending duty number. -/
def State.addDuty (d : Duty) (s : State) : State :=
  s.setDuties (insertBy (fun a b => decide (a.number < b.number)) d s.duties)

/-- The duty and the request reply after an overwrite or a creation. -/
def State.loadedAnswer (s : State) (adjusted : Bool) (n : Nat) (o : LoadOutcome) : Answer :=
  match s.duty? n with
  | none => .refuse .unknown
  | some d => acceptOr adjusted (.dutyLoaded d (s.dutyKey d) o)

/-- LOAD_DUTY over a BOUND record: the fields are stored, and the binding is kept or removed by the match; a key that
moved is handed over (R121). -/
def Ev.overwriteBound (d new : Duty) (b : Binding) (e : Ev) : Ev × LoadOutcome :=
  let keeps :=
    match e.s.vehicle? b.other with
    | none => false
    | some v => new.suits v
  if keeps then
    let e1 := e.map (State.modDuty d.number (fun _ => { new with state := .bound, binding := some b }))
    (if d.day = new.day ∧ d.due = new.due then e1 else e1.handOver b.other, .kept)
  else
    ((e.map (fun s => (s.modDuty d.number (fun _ => new)).unbindBoth d.number b.other .openState)).handOver b.other,
      .removed)

/-- The work of LOAD_DUTY once its fields are understood (R120, R121). -/
def State.loadDutyWork (new : Duty) (adjusted : Bool) (s : State) : State × Answer :=
  match s.duty? new.number with
  | none =>
    if 256 ≤ s.duties.length then (s, .refuse .full)
    else
      let t := s.addDuty new
      (t, t.loadedAnswer adjusted new.number .new)
  | some d =>
    match d.state with
    | .called | .released | .lapsed => (s, .refuse .stateConflict)
    | .openState =>
      let t := s.modDuty d.number (fun _ => new)
      (t, t.loadedAnswer adjusted new.number (if Config.openOverwriteReportsKept then .kept else .removed))
    | .bound =>
      match d.binding with
      | none =>
        let t := s.modDuty d.number (fun _ => new)
        (t, t.loadedAnswer adjusted new.number .removed)
      | some b =>
        let r := (Ev.start s).overwriteBound d new b
        let t := r.1.finish s
        (t, t.loadedAnswer adjusted new.number r.2)

/-- LOAD_DUTY (R120, R121). -/
def execLoadDuty (h : Hdr) (d : DutyFields) (s : State) : Host.Outcome State Fault Refusal :=
  s.request h .loadDuty (h.len == 12) (fun t =>
    match parseDuty d with
    | none => (t, .refuse .badForm)
    | some new =>
      if d.number < 1 ∨ 4095 < d.number ∨ 1439 < d.due then (t, .refuse .range)
      else t.loadDutyWork new (decide (new.minLevel < d.minLevel)))

/-! ### CANCEL_DUTY, UNBIND_DUTY (R122, R125) -/

/-- The call of a duty that has a bound vehicle is withdrawn if it is CALLED, and the binding is removed (R122, R125). -/
def Ev.detach (d : Duty) (b : Binding) (c : WithdrawCause) (e : Ev) : Ev :=
  let e1 := if d.state = .called then e.withdraw b.other c else e
  e1.map (State.unbindBoth d.number b.other .openState)

/-- The record of a duty is freed (R122). -/
def State.removeDuty (n : Nat) (s : State) : State := s.setDuties (s.duties.filter (fun x => x.number != n))

/-- CANCEL_DUTY (R122). -/
def execCancelDuty (h : Hdr) (duty : Nat) (s : State) : Host.Outcome State Fault Refusal :=
  s.request h .cancelDuty (h.len == 3) (fun t =>
    match t.duty? duty with
    | none => (t, .refuse .unknown)
    | some d =>
      if d.state = .released then (t, .refuse .stateConflict)
      else
        match d.binding with
        | none => (t.removeDuty duty, .accept (.dutyCancelled d.state none))
        | some b =>
          let e := (((Ev.start t).detach d b .cancel).map (State.removeDuty duty)).handOver b.other
          (e.finish t, .accept (.dutyCancelled d.state (some b.other))))

/-- UNBIND_DUTY (R125). -/
def execUnbindDuty (h : Hdr) (duty : Nat) (s : State) : Host.Outcome State Fault Refusal :=
  s.request h .unbindDuty (h.len == 3) (fun t =>
    match t.duty? duty with
    | none => (t, .refuse .unknown)
    | some d =>
      if d.state = .released ∨ d.state = .lapsed then (t, .refuse .stateConflict)
      else
        match d.binding with
        | none => (t, .accept (.dutyUnbound none))
        | some b =>
          let e := ((Ev.start t).detach d b .unbind).handOver b.other
          (e.finish t, .accept (.dutyUnbound (some b.other))))

/-! ### BIND_DUTY (R123, R124) -/

/-- An accepted BIND_DUTY: the old vehicle unbound, the new one bound and fixed; each key that moved is handed over, the
old vehicle before the new (R124). -/
def Ev.bind (d : Duty) (fleet : Nat) (e : Ev) : Ev :=
  match d.binding with
  | none => (e.map (State.bindBoth d.number fleet true)).handOver fleet
  | some b =>
    if b.other = fleet then e.map (State.bindBoth d.number fleet true)
    else
      (((e.map (fun s => (s.unbindBoth d.number b.other .openState).bindBoth d.number fleet true)).handOver
        b.other).handOver fleet)

/-- The vehicle that an accepted BIND_DUTY unbinds (R124). -/
def Duty.displaced (d : Duty) (fleet : Nat) : Option Nat :=
  match d.binding with
  | none => none
  | some b => if b.other = fleet then none else some b.other

/-- The checks of BIND_DUTY from the second on (R123). -/
def bindRefusal (d : Duty) (v : Vehicle) : Option RefuseCode :=
  if d.state = .called ∨ d.state = .released ∨ d.state = .lapsed then some .stateConflict
  else if v.held = true ∨ (v.binding.map Binding.other != none ∧ v.binding.map Binding.other != some d.number) then
    some .stateConflict
  else if d.suits v then none
  else some .mismatch

/-- BIND_DUTY (R123, R124). -/
def execBindDuty (h : Hdr) (duty fleet : Nat) (s : State) : Host.Outcome State Fault Refusal :=
  s.request h .bindDuty (h.len == 5) (fun t =>
    match t.duty? duty, t.vehicle? fleet with
    | some d, some v =>
      match bindRefusal d v with
      | some c => (t, .refuse c)
      | none =>
        (((Ev.start t).bind d fleet).finish t,
          .accept (.dutyBound ⟨.bound, t.dutyKey d, fleet, d.displaced fleet, v.state, v.level⟩))
    | _, _ => (t, .refuse .unknown))

/-! ### Automatic binding (R126 to R129) -/

/-- A duty that the run takes: OPEN, within the horizon, its lapse not due (R126). -/
def State.autoDue (s : State) (d : Duty) : Bool :=
  d.state == .openState && decide (s.dutyKey d ≤ s.now + s.params.horizon) &&
  decide (s.now < s.dutyKey d + s.params.grace)

/-- A vehicle that may be bound to the duty by the run (R127). -/
def Duty.candidate (d : Duty) (v : Vehicle) : Bool :=
  v.state == .parked && !v.held && v.binding.isNone && d.suits v && !(v.kind == .fuel && v.fuelOwed)

/-- A candidate with what ranks it (R128). -/
structure Candidate where
  fleet : Nat
  reachable : Bool
  levelMet : Bool
  position : Nat
  deriving DecidableEq, Repr

/-- The ranking of candidates (R128). -/
def Candidate.before (a b : Candidate) : Bool :=
  if a.reachable != b.reachable then a.reachable
  else if a.levelMet != b.levelMet then a.levelMet
  else if a.position ≠ b.position then decide (a.position < b.position)
  else decide (a.fleet < b.fleet)

/-- What ranks a vehicle for a duty; none where the vehicle is in no lane (R128). -/
def State.rank? (s : State) (d : Duty) (v : Vehicle) : Option Candidate :=
  match s.parkedLane? v.number with
  | none => none
  | some l =>
    let ahead := (s.lane l).parked.takeWhile (fun f => f != v.number)
    some ⟨v.number, ahead.all (fun f => decide (s.keyOf f ≤ s.dutyKey d)), decide (d.minLevel ≤ v.level),
      s.position l v.number⟩

/-- The candidate ranked first (R128). -/
def State.bestCandidate? (s : State) (d : Duty) : Option Candidate :=
  (sortBy Candidate.before ((s.fleet.filter d.candidate).filterMap (s.rank? d))).head?

/-- One duty of the run (R127 to R129). -/
def Ev.autoBindOne (e : Ev) (d : Duty) : Ev :=
  match e.s.bestCandidate? d with
  | some c => ((e.map (State.bindBoth d.number c.fleet false)).handOver c.fleet).firePass
  | none =>
    if d.uncovered then e
    else
      e.map (fun s =>
        (s.modDuty d.number (fun x => { x with uncovered := true })).post [.dispatch]
          { s.blank .uncovered with duty := some d.number, value := some (s.dutyKey d) })

/-- A run of automatic binding, in call order over the duties that it takes at its start (R126). -/
def Ev.autoBind (e : Ev) : Ev := (e.s.inCallOrder e.s.autoDue).foldl Ev.autoBindOne e

/-! ### LAPSE -/

/-- LAPSE: the lapse test of one duty as an event of its own (R142; log 9); nothing while the clock is UNSET. -/
def execLapse (duty : Nat) (s : State) : Host.Outcome State Fault Refusal :=
  s.event (fun t =>
    if t.clock.unset then t
    else
      match t.duty? duty with
      | none => t
      | some d => if t.lapseDue d then ((Ev.start t).lapseDuty d).finish t else t)

end Sys2Proof.Machine
end

