-- ==== Sys2Proof/Machine/Turns.lean ====
section
/-! DEFINITION. The commands of the service stations (chapter 4): state reports, completed turns, turn timers. -/

namespace Sys2Proof.Machine

/-! ### STATION_STATE (R77, R80) -/

/-- A FAULT report for an OCCUPIED unit ends the turn abnormally (R80): the unit becomes FAULT, the step is owed, the
vehicle's route is continued, and then the station is tested. -/
def State.faultOccupied (u : UnitId) (s : State) : State :=
  let wasOpen := s.stationOpen u.station
  let s1 := s.setUnit u (StationUnit.vacant .fault)
  let s2 :=
    match (s.unit u).vehicle with
    | none => s1
    | some f => (s1.modVehicle f (fun v => (v.endStep u.station).owe u.station)).continueRoute f
  s2.stationTest wasOpen u.station

/-- A report acts on a unit by its present state (R77); none is REFUSE, STATE_CONFLICT. -/
def State.unitReport (u : UnitId) (r : Reported) (s : State) : Option State :=
  let x := s.unit u
  let wasOpen := s.stationOpen u.station
  match r, x.state with
  | .ready, .closed | .ready, .fault => some ((s.setUnit u (StationUnit.vacant .ready)).serve u.station)
  | .ready, .ready => some s
  | .ready, .occupied | .ready, .exitBlocked => none
  | .closed, .ready | .closed, .fault =>
    some ((s.setUnit u (StationUnit.vacant .closed)).stationTest wasOpen u.station)
  | .closed, .closed => some s
  | .closed, .occupied | .closed, .exitBlocked => some (s.setUnit u { x with closing := true })
  | .fault, .ready | .fault, .closed =>
    some ((s.setUnit u (StationUnit.vacant .fault)).stationTest wasOpen u.station)
  | .fault, .fault => some s
  | .fault, .occupied => some (s.faultOccupied u)
  | .fault, .exitBlocked => some (s.setUnit u { x with faultPending := true })

/-- STATION_STATE (R77). -/
def execStationState (h : Hdr) (unitCode reported : Nat) (s : State) : Host.Outcome State Fault Refusal :=
  s.request h .stationState (h.len == 3) (fun t =>
    match unit? unitCode with
    | none => (t, .refuse .unknown)
    | some u =>
      match reported? reported with
      | none => (t, .refuse .badForm)
      | some r =>
        match t.unitReport u r with
        | none => (t, .refuse .stateConflict)
        | some t1 =>
          let t2 := (Ev.start t1).finish t
          let x := t2.unit u
          (t2, .accept (.unitState x.state x.closing x.faultPending)))

/-! ### SERVICE_DONE (R81 to R83) -/

/-- The result applied to the vehicle record, and the step off the route (R82). -/
def Vehicle.turnDone (v : Vehicle) (st : Station) (ok : Bool) (level : Nat) : Vehicle :=
  match st with
  | .wash =>
    { v.endStep .wash with washDays := if ok then 0 else v.washDays, washOwed := !ok }
  | .fuel => { v.endStep .fuel with level := min level 100, fuelOwed := !ok }

/-- The work of an accepted SERVICE_DONE, in the order of R83: result, continuation, release or exit block. -/
def State.turnWork (u : UnitId) (f : Nat) (ok : Bool) (level : Nat) (s : State) : State :=
  let s1 := s.modVehicle f (fun v => v.turnDone u.station ok level)
  match s1.vehicle? f with
  | none => s1
  | some v =>
    let p := s1.plan v v.route
    let s2 := s1.carryOut f p
    match p.disp with
    | .nowhere => s2.setUnit u { s2.unit u with state := .exitBlocked }
    | .queue _ | .lane _ _ | .apron => s2.releaseUnit u

/-- SERVICE_DONE (R81 to R83). -/
def execServiceDone (h : Hdr) (unitCode fleet result level : Nat) (s : State) : Host.Outcome State Fault Refusal :=
  s.request h .serviceDone (h.len == 7) (fun t =>
    match unit? unitCode, t.vehicle? fleet with
    | some u, some _ =>
      match doneOk? result with
      | none => (t, .refuse .badForm)
      | some ok =>
        if (t.unit u).state = .occupied ∧ (t.unit u).vehicle = some fleet then
          let t1 := (Ev.start (t.turnWork u fleet ok level)).finish t
          let next := if (t1.unit u).vehicle = some fleet then none else (t1.unit u).vehicle
          (t1, acceptOr (u.station == .fuel && decide (100 < level))
            (.served (t1.stateOf fleet) (t1.locate fleet) (t1.unit u).state next))
        else (t, .refuse .stateConflict)
    | _, _ => (t, .refuse .unknown))

/-! ### Turn timers (R75, R76) -/

/-- The timer of an OCCUPIED unit at 1 comes to 0: the overrun is counted and posted, and a fuel timer is loaded again
(R75, R76). -/
def State.overrun (u : UnitId) (s : State) : State :=
  let x := s.unit u
  let n := min (x.overruns + 1) 255
  let after := match u.station with
    | .wash => 0
    | .fuel => s.params.fuelPreset
  let s1 := s.setUnit u { x with timer := some after, overruns := n }
  match x.vehicle with
  | none => s1
  | some f =>
    s1.post [.service, .dispatch] { s1.about .turnOverrun f with place := some (.unit u), value := some n }

/-- One minute of a unit's turn timer (R75). -/
def State.tickUnit (s : State) (u : UnitId) : State :=
  if (s.unit u).state = .occupied then
    match (s.unit u).timer with
    | none => s
    | some 0 => s
    | some 1 => s.overrun u
    | some (n + 2) => s.setUnit u { s.unit u with timer := some (n + 1) }
  else s

/-- The Station Sequencer's work on a minute event, in unit order (R75). -/
def State.tickUnits (s : State) : State := allUnits.foldl State.tickUnit s

/-- TURN_OVERRUN: the decrease that brings an OCCUPIED unit's timer from 1 to 0, as an event of its own (R75; log 9). -/
def execTurnOverrun (u : UnitId) (s : State) : Host.Outcome State Fault Refusal :=
  s.event (fun t =>
    if t.clock.unset then t
    else if (t.unit u).state = .occupied ∧ (t.unit u).timer = some 1 then t.overrun u
    else t)

end Sys2Proof.Machine
end

