-- ==== Sys2Proof/Machine/Yard.lean ====
section
/-! DEFINITION. The commands of the yard: the gate (R47 to R52, R144 to R146), lane entries (R32 to R36), surveys
(R39 to R41), lane definitions (R25, R26), and overdue placements (R65). -/

namespace Sys2Proof.Machine

/-! ### GATE_IN (R47 to R52) -/

/-- The route built at the gate (R48); the level is the record's after the report. -/
def State.gateRoute (s : State) (v : Vehicle) (wash : Bool) : List Station :=
  (if v.kind = .fuel ∧ v.level < s.params.refuelBelow then [Station.fuel] else []) ++
  (if s.params.washInterval ≤ v.washDays ∨ wash = true then [Station.wash] else [])

/-- The record as GATE_IN takes it: the level read at the gate, both owed flags cleared (R15, R51). -/
def Vehicle.atGate (v : Vehicle) (level : Nat) : Vehicle :=
  { v with level := min level v.capacity, washOwed := false, fuelOwed := false }

/-- The stage of a disposition, where a lane was reserved. -/
def Disp.stage? : Disp → Option Nat
  | .lane _ stage => some stage
  | .queue _ | .apron | .nowhere => none

/-- The work of GATE_IN for an ABSENT vehicle (R47 to R52). -/
def State.gateInWork (v : Vehicle) (level : Nat) (wash : Bool) (s : State) : State × Answer :=
  let v1 := v.atGate level
  let route := s.gateRoute v1 wash
  let p := s.plan v1 route
  match p.disp with
  | .nowhere =>
    (s.post [.dispatch] { s.about .yardFull v.number with value := some v.cls.length }, .refuse .full)
  | .queue _ | .lane _ _ | .apron =>
    let s1 := (s.modVehicle v.number (fun w => w.atGate level)).carryOut v.number p
    let s2 := (Ev.start s1).finish s
    match s2.vehicle? v.number with
    | none => (s2, .refuse .unknown)
    | some w =>
      (s2, acceptOr (decide (v.capacity < level))
        (.gateIn ⟨route, p.skipped, w.state, s2.location w, p.disp.stage?⟩))

/-- GATE_IN (R47). -/
def execGateIn (h : Hdr) (fleet level wash : Nat) (s : State) : Host.Outcome State Fault Refusal :=
  s.request h .gateIn (h.len == 6) (fun t =>
    match yesNo? wash with
    | none => (t, .refuse .badForm)
    | some w =>
      match t.vehicle? fleet with
      | none => (t, .refuse .unknown)
      | some v => if v.state = .absent then t.gateInWork v level w else (t, .refuse .stateConflict))

/-! ### GATE_OUT (R144 to R146) -/

/-- The duty of a departing vehicle: released where it was CALLED (R144), made OPEN otherwise, with
UNSCHEDULED_DEPARTURE (R145). -/
def Ev.settleDuty (v : Vehicle) (e : Ev) : Ev :=
  let lane := (e.s.location v).lane?
  if v.state = .called then
    match v.binding with
    | none => e
    | some b =>
      (e.map (fun s =>
        ((s.setWindow (s.window.filter (fun w => w.fleet != v.number))).unbindBoth b.other v.number .released).modDuty
          b.other (fun d => { d with departed := some v.number }))).freeSlot
  else
    let duty := v.binding.map Binding.other
    let e1 :=
      match v.binding with
      | none => e
      | some b => e.map (State.unbindBoth b.other v.number .openState)
    e1.map (fun s => s.post [.dispatch]
      { s.blank .unscheduledDeparture with
          fleet := some v.number, duty := duty, place := lane.map Place.lane, value := some v.state.code })

/-- The vehicle leaves the collection that holds it (R146 step 1); v is its record before the departure. -/
def Ev.leaveForGate (v : Vehicle) (e : Ev) : Ev :=
  match v.state with
  | .absent => e
  | .apron => (e.map (fun s => s.setApron (without v.number s.apron))).wantSweep true
  | .queued =>
    match e.s.queueOf? v.number with
    | none => e
    | some st => e.map (State.leaveQueue st v.number)
  | .servicing =>
    match e.s.unitOf? v.number with
    | none => e
    | some u => e.map (State.releaseUnit u)
  | .placing =>
    match e.s.reservedLane? v.number with
    | some l => (e.map (State.unreserve l v.number)).wantSweep true
    | none => (e.map (fun s => s.setUnplaced (s.unplaced.filter (fun x => x.fleet != v.number)))).wantSweep true
  | .parked | .called =>
    match e.s.parkedLane? v.number with
    | none => e
    | some l =>
      let pos := e.s.position l v.number
      let e1 :=
        if pos = 1 then e
        else e.map (fun s => s.post [.dispatch, .service]
          { s.about .mapConflict v.number with
              place := some (.lane l), value := some MapCause.notAtExit.code, second := some pos })
      (e1.map (fun s => (s.unpark l v.number).recomputeLane l)).wantSweep true

/-- The record of a vehicle that has passed out (R5, R20, R146 step 2). -/
def Vehicle.departed (v : Vehicle) : Vehicle := { v.toAbsent with ranToday := true }

/-- Does a departure from this record start a pass (R17, R146 step 3)? -/
def Vehicle.departureTriggers (v : Vehicle) : Bool := v.plugged || v.state == .parked || v.state == .called

/-- The work of GATE_OUT (R144 to R146). -/
def State.gateOutWork (v : Vehicle) (s : State) : State × Answer :=
  let loc := s.location v
  let short := (s.window.find? (fun w => w.fleet == v.number)).map WindowEntry.short
  let e1 := ((Ev.start s).settleDuty v).leaveForGate v
  let e2 := (e1.map (State.modVehicle v.number Vehicle.departed)).wantPass v.departureTriggers
  (e2.finish s, .accept (.gateOut
    ⟨v.state == .called, v.binding.map Binding.other, if v.state = .called then short else none, v.state, loc.lane?,
      loc.position?⟩))

/-- GATE_OUT (R144). -/
def execGateOut (h : Hdr) (fleet : Nat) (s : State) : Host.Outcome State Fault Refusal :=
  s.request h .gateOut (h.len == 3) (fun t =>
    match t.vehicle? fleet with
    | none => (t, .refuse .unknown)
    | some v => if v.state = .absent then (t, .refuse .stateConflict) else t.gateOutWork v)

/-! ### Taking a vehicle from its former place (R33, R40 step 1) -/

/-- What a report of a vehicle in lane l takes it from (R33). A survey posts no MISSED_GATE, withdraws calls with cause
SURVEY (R40), and leaves what follows at a released unit's station until its other work on the stations is done (R73); a
reservation in lane l itself is left to the caller. -/
def Ev.takeFrom (survey : Bool) (l : LaneId) (v : Vehicle) (e : Ev) : Ev :=
  let f := v.number
  match v.state with
  | .absent => if survey then e else e.map (State.mapConflict .missedGate l f)
  | .apron => (e.map (fun s => s.setApron (without f s.apron))).wantSweep true
  | .queued =>
    match e.s.queueOf? f with
    | none => e
    | some st => e.map (State.leaveQueue st f)
  | .servicing =>
    match e.s.unitOf? f with
    | none => e
    | some u => e.map (if survey then State.vacate u else State.releaseUnit u)
  | .placing =>
    match e.s.reservedLane? f with
    | some r =>
      if r = l then e
      else ((e.map (State.unreserve r f)).map (State.mapConflict .wrongLane l f)).wantSweep true
    | none => (e.map (fun s => s.setUnplaced (s.unplaced.filter (fun x => x.fleet != f)))).wantSweep true
  | .parked | .called =>
    match e.s.parkedLane? f with
    | none => e
    | some r =>
      let e1 := e.withdrawIfCalled f (if survey then .survey else .laneReport)
      ((e1.map (State.unpark r f)).wantSweep true).wantPass v.plugged

/-! ### LANE_ENTRY (R32 to R36) -/

/-- Reservations are dropped, newest first, until the lengths fit (R34): from the reservations newest first, those
dropped in that order, and those kept. -/
def dropUntilFits (lengthOf : Nat → Nat) (capacity used : Nat) : List Nat → List Nat × List Nat
  | [] => ([], [])
  | f :: rest =>
    if used + lengthOf f + (rest.map lengthOf).sum ≤ capacity then ([], f :: rest)
    else (f :: (dropUntilFits lengthOf capacity used rest).1, (dropUntilFits lengthOf capacity used rest).2)

/-- Room is made in a lane for a vehicle of the length given; the holders dropped, newest first (R34). -/
def Ev.makeRoom (l : LaneId) (length : Nat) (e : Ev) : Ev × List Nat :=
  let r := dropUntilFits e.s.lengthOf (e.s.lane l).defn.capacity (e.s.occupied l + length) (e.s.lane l).reserved.reverse
  ((e.map (State.modLane l (fun x => { x with reserved := r.2.reverse }))).wantSweep (!r.1.isEmpty), r.1)

/-- A vehicle is about to join in front of a CALLED one in a DEADEND lane: the call is withdrawn (R36). -/
def Ev.clearHead (l : LaneId) (e : Ev) : Ev :=
  match (e.s.lane l).defn.kind, e.s.headCalled? l with
  | .deadend, some g => e.withdraw g .laneReport
  | _, _ => e

/-- The blocked flags of the lane entered, and of the lane left, are recomputed (R35 step 1). -/
def Ev.recomputeBoth (l : LaneId) (left : Option LaneId) (e : Ev) : Ev :=
  let e1 := e.map (State.recomputeLane l)
  match left with
  | none => e1
  | some r => e1.map (State.recomputeLane r)

/-- A LANE_ENTRY that passes the room test (R33 to R35). -/
def State.entryWork (v : Vehicle) (l : LaneId) (s : State) : State × Answer :=
  let f := v.number
  let left := if v.state = .parked ∨ v.state = .called then s.parkedLane? f else none
  let e1 := ((Ev.start s).takeFrom false l v).map (State.unreserve l f)
  let r := e1.makeRoom l v.cls.length
  let e2 := (r.1.clearHead l).map (fun t =>
    ((t.joinLane l f).modVehicle f Vehicle.toParked).classConflict l f)
  let position := e2.s.position l f
  let e3 := (e2.recomputeBoth l left).map (fun t => r.2.foldl (State.reallocate l) t)
  (e3.finish s, .accept (.entered position r.2.length))

/-- The room test (R32). -/
def State.roomFor (s : State) (v : Vehicle) (l : LaneId) : Bool :=
  (v.state == .placing && (s.lane l).reserved.contains v.number) ||
  decide (s.occupied l + v.cls.length ≤ (s.lane l).defn.capacity)

/-- LANE_ENTRY (R32). DESIGN CHOICE (log 36): the reply to a repeated report, and to that of a CALLED vehicle in its own
lane, carries 0 reservations dropped beside the position. -/
def execLaneEntry (h : Hdr) (fleet lane : Nat) (s : State) : Host.Outcome State Fault Refusal :=
  s.request h .laneEntry (h.len == 4) (fun t =>
    match laneOf? lane, t.vehicle? fleet with
    | some l, some v =>
      let here := (t.lane l).parked.contains fleet
      if v.state = .parked ∧ here = true then (t, .accept (.entered (t.position l fleet) 0))
      else if v.state = .called ∧ here = true then
        (((Ev.start t).withdraw fleet .laneReport).finish t, .accept (.entered (t.position l fleet) 0))
      else if t.roomFor v l then t.entryWork v l
      else (t.mapConflict .noRoom l fleet, .refuse .full)
    | _, _ => (t, .refuse .unknown))

/-! ### LANE_CONTENT (R39 to R41) -/

/-- What the walk of a reported list finds (R39): the retained list, the numbers passed over as unknown, and the numbers
dropped past capacity. -/
structure Walk where
  retained : List Nat
  unknown : List Nat
  past : List Nat
  deriving DecidableEq, Repr

/-- The walk, with what is retained so far and its length (R39). DESIGN CHOICE (log 35): a number that no record holds is
passed over, counted and reported at each of its places in the list. -/
def State.walk (s : State) (capacity : Nat) : List Nat → Nat → List Nat → Walk
  | kept, _, [] => ⟨kept, [], []⟩
  | kept, used, f :: rest =>
    match s.vehicle? f with
    | none =>
      let w := s.walk capacity kept used rest
      { w with unknown := f :: w.unknown }
    | some v =>
      if kept.contains f then s.walk capacity kept used rest
      else if used + v.cls.length ≤ capacity then s.walk capacity (kept ++ [f]) (used + v.cls.length) rest
      else ⟨kept, [], f :: rest⟩

/-- UNKNOWN_IN_SURVEY (R38): a number outside 1..9999 is carried as the second value. -/
def State.tellUnknown (l : LaneId) (s : State) (f : Nat) : State :=
  let n : Notice := { s.blank .mapConflict with place := some (.lane l), value := some MapCause.unknownInSurvey.code }
  s.post [.dispatch, .service] (if 1 ≤ f ∧ f ≤ 9999 then { n with fleet := some f } else { n with second := some f })

/-- The notices of the walk (R39). -/
def State.tellWalk (l : LaneId) (w : Walk) (s : State) : State :=
  let s1 := w.unknown.foldl (State.tellUnknown l) s
  match w.past with
  | [] => s1
  | f :: _ => s1.mapConflict .pastCapacity l f

/-- Step 1 of R40 for one retained vehicle. DESIGN CHOICE (log 41): the call of a retained vehicle that is CALLED in this lane is
withdrawn at the vehicle's own place in the list, among the vehicles taken from elsewhere. -/
def Ev.surveyTake (l : LaneId) (e : Ev) (f : Nat) : Ev :=
  match e.s.vehicle? f with
  | none => e
  | some v =>
    if (e.s.lane l).parked.contains f then e.withdrawIfCalled f .survey
    else (e.takeFrom true l v).map (State.modVehicle f (fun w => { w with blocked := false }))

/-- Step 3 of R40 for one vehicle that is missing from the list. DEDUCED (log 19): it triggers a pass, plugged or not (R17). -/
def Ev.surveyMissing (l : LaneId) (e : Ev) (f : Nat) : Ev :=
  let e1 := e.withdrawIfCalled f .survey
  ((e1.map (fun s => (s.modVehicle f Vehicle.toAbsent).mapConflict .missingInSurvey l f)).wantSweep true).wantPass true

/-- Step 4 of R40 for one retained vehicle: it is PARKED, unplugged, its route abandoned. -/
def Ev.surveyPark (e : Ev) (f : Nat) : Ev :=
  let plugged := match e.s.vehicle? f with
    | none => false
    | some v => v.plugged
  (e.map (State.modVehicle f Vehicle.toParked)).wantPass plugged

/-- What follows at the stations whose units a survey has released, WASH before FUEL, against which stations were open
before it (R68, R73, R78; log 34). -/
def State.settleBoth (s0 s : State) : State :=
  (s.settle (s0.stationOpen .wash) .wash).settle (s0.stationOpen .fuel) .fuel

/-- The lanes, other than l, in whose parked lists these vehicles stand, in the order of the vehicles given. DESIGN CHOICE
(log 32): the spec does not order the recomputations of several lanes, nor so their BLOCKED notices (R41). -/
def State.lanesLosing (s : State) (l : LaneId) (fs : List Nat) : List LaneId :=
  (fs.filterMap s.parkedLane?).filter (fun r => r != l)

/-- The work of LANE_CONTENT (R39 to R41). DESIGN CHOICE (log 41): step 3 of R40 takes the missing vehicles in the order of the
old parked list, exit-first, and so posts their MISSING_IN_SURVEY notices. -/
def State.surveyWork (l : LaneId) (fleets : List Nat) (s : State) : State × Answer :=
  let w := s.walk (s.lane l).defn.capacity [] 0 fleets
  let old := (s.lane l).parked
  let missing := old.filter (fun f => !w.retained.contains f)
  let losing := s.lanesLosing l w.retained
  let e0 := Ev.start (s.tellWalk l w)
  let e1 := w.retained.foldl (Ev.surveyTake l) e0
  let dropped := (e1.s.lane l).reserved.filter (fun f => !w.retained.contains f)
  let e2 := (e1.map (State.modLane l (fun x => { x with reserved := [] }))).wantSweep (!dropped.isEmpty)
  let e3 := missing.foldl (Ev.surveyMissing l) e2
  let e4 := w.retained.foldl Ev.surveyPark (e3.map (State.modLane l (fun x => { x with parked := w.retained })))
  let e5 := (e4.map (fun t => w.retained.foldl (fun x f => x.classConflict l f) t)).map (State.settleBoth s)
  let e6 := losing.foldl (fun e r => e.map (State.recomputeLane r)) (e5.map (State.recomputeLane l))
  let e7 := e6.map (fun t => dropped.foldl (State.reallocate l) t)
  (e7.finish s, acceptOr (!w.unknown.isEmpty || !w.past.isEmpty)
    (.surveyed ⟨w.retained.length, w.unknown.length, w.past.length, missing.length, dropped.length⟩))

/-- LANE_CONTENT (R39). -/
def execLaneContent (h : Hdr) (lane count : Nat) (fleets : List Nat) (s : State) : Host.Outcome State Fault Refusal :=
  s.request h .laneContent (decide (count ≤ 16) && h.len == 3 + 2 * count) (fun t =>
    match laneOf? lane with
    | none => (t, .refuse .unknown)
    | some l => t.surveyWork l fleets)

/-! ### DEFINE_LANE (R25, R26) -/

/-- The definition requested by DEFINE_LANE, brought into range; none where a yes/no byte or the kind is bad (R25). -/
def parseLane (d : LaneFields) : Option LaneDef :=
  match laneKind? d.kind, yesNo? d.equipped, yesNo? d.lowClearance, yesNo? d.shortTurn, yesNo? d.isOpen with
  | some kind, some equipped, some low, some short, some isOpen =>
    some ⟨kind, laneCapacity d.capacity, equipped, clamp 10 300 d.rating, groupIndex d.group, low, short, isOpen⟩
  | _, _, _, _, _ => none

/-- A yes/no byte of DEFINE_LANE is bad (R164 step 5). -/
def LaneFields_badFlag (d : LaneFields) : Bool :=
  (yesNo? d.equipped).isNone || (yesNo? d.lowClearance).isNone || (yesNo? d.shortTurn).isNone ||
  (yesNo? d.isOpen).isNone

/-- A value was brought into range (R25). -/
def laneAdjusted (d : LaneFields) (x : LaneDef) : Bool :=
  decide (x.capacity ≠ d.capacity) || decide (x.rating ≠ d.rating) || decide (x.group.val + 1 ≠ d.group)

/-- The definitions agree in every field other than open and rating (R25). -/
def LaneDef.sameFixed (x y : LaneDef) : Bool := decide ({ x with rating := y.rating, isOpen := y.isOpen } = y)

/-- Space has freed: defined and open now, and undefined, closed or smaller before (R26). -/
def spaceFreedBy (old new : LaneDef) : Bool :=
  new.capacity != 0 && new.isOpen && (old.capacity == 0 || !old.isOpen || decide (old.capacity < new.capacity))

/-- A grant above a lowered rating is lowered to it (R26). -/
def Vehicle.boundGrant (rating : Nat) (v : Vehicle) : Vehicle := { v with grant := min v.grant rating }

/-- The work of an accepted DEFINE_LANE (R25, R26). -/
def Ev.define (l : LaneId) (x : LaneDef) (e : Ev) : Ev :=
  let old := (e.s.lane l).defn
  let e1 := e.map (State.modLane l (fun y => { y with defn := x }))
  let e2 :=
    if x.rating < old.rating then
      e1.map (fun s => (s.lane l).parked.foldl (fun t f => t.modVehicle f (Vehicle.boundGrant x.rating)) s)
    else e1
  (e2.wantPass (x.rating != old.rating)).wantSweep (spaceFreedBy old x)

/-- The work of DEFINE_LANE once its fields are understood (R25). -/
def State.defineWork (l : LaneId) (d : LaneFields) (x : LaneDef) (s : State) : State × Answer :=
  if (s.lane l).isEmpty || (s.lane l).defn.sameFixed x then
    (((Ev.start s).define l x).finish s, acceptOr (laneAdjusted d x) (.laneDefined x))
  else (s, .refuse .stateConflict)

/-- DEFINE_LANE (R25, R26). A bad yes/no byte is found first (R164 step 5); where both the kind and the lane number are
bad, which is found first is free (log 11). DESIGN CHOICE (log 11): a bad kind is found before the STATE_CONFLICT of a lane
that has content, which R25 and R164 do not order. -/
def execDefineLane (h : Hdr) (d : LaneFields) (s : State) : Host.Outcome State Fault Refusal :=
  s.request h .defineLane (h.len == 11) (fun t =>
    if LaneFields_badFlag d then (t, .refuse .badForm)
    else
      match laneOf? d.lane, parseLane d with
      | some l, some x => t.defineWork l d x
      | none, some _ => (t, .refuse .unknown)
      | some _, none => (t, .refuse .badForm)
      | none, none => (t, .refuse (if Config.enumCheckFirst 0x14 then .badForm else .unknown)))

/-! ### Overdue placements (R65) -/

/-- The overdue test of one vehicle, with the measure of elapsed time given (R65). -/
def State.testOverdue (age : Nat → Nat) (s : State) (f : Nat) : State :=
  match s.vehicle? f with
  | none => s
  | some v =>
    match v.state, v.placedAt with
    | .placing, some c =>
      if s.params.placeTimeout ≤ age c then
        (s.post [.gate, .dispatch]
          { s.about .placementOverdue f with
              place := (s.reservedLane? f).map Place.lane, value := some c }).modVehicle f
          (fun w => { w with placedAt := some s.clock.minute })
      else s
    | _, _ => s

/-- The overdue test of every vehicle, in ascending fleet number (R65). -/
def State.testOverdueAll (age : Nat → Nat) (s : State) : State :=
  (s.fleet.map Vehicle.number).foldl (State.testOverdue age) s

/-- PLACEMENT_OVERDUE: the overdue test of one vehicle at the present minute (R65; log 9); nothing while UNSET. -/
def execPlacementOverdue (fleet : Nat) (s : State) : Host.Outcome State Fault Refusal :=
  s.event (fun t => if t.clock.unset then t else t.testOverdue (elapsed t.clock.minute) fleet)

end Sys2Proof.Machine
end

