-- ==== Sys2Proof/Machine/Clock.lean ====
section
/-! DEFINITION. The Depot Clock (chapter 8): minute and rollover events, the work of the blocks on them, and SET_CLOCK. -/

namespace Sys2Proof.Machine

/-! ### The order of the blocks' work (R100, R101, R151; log 2) -/

/-- The work that must be done before a piece of work of the same clock event: a block takes the rollover before its work
on the minute event (R151), the rollover's sweep follows every other part of the rollover event (R61, R152), and S in effect
changes before the minute event is delivered (R151, R153). Whether a block takes the rollover under the old or the new S is
left free (log 2). -/
def workBefore : Work → List Work
  | .fleetRollover | .rosterRollover | .rolloverNotice | .dayStartChange => []
  | .rolloverSweep => [.fleetRollover, .rosterRollover, .rolloverNotice]
  | .laneKeys | .stations | .charge => [.dayStartChange]
  | .placement => [.dayStartChange, .rolloverSweep]
  | .pullOut => [.dayStartChange, .rosterRollover]

/-- The work can be taken next: nothing that must come before it is left. -/
def ready (left : List Work) (w : Work) : Bool := (workBefore w).all (fun x => !left.contains x)

/-- The most urgent of these. -/
def mostUrgent (rank : Work → Nat) : List Work → Option Work
  | [] => none
  | w :: rest =>
    match mostUrgent rank rest with
    | none => some w
    | some x => if rank w ≤ rank x then some w else some x

/-- A clock event as its work goes on. -/
structure ClockEv where
  e : Ev
  /-- the rollover event has a cause of R61 -/
  rollSweep : Bool

/-- The n most urgent pieces of work, each taken when it can be. -/
def runWorks (rank : Work → Nat) (run : Work → ClockEv → ClockEv) : Nat → List Work → ClockEv → ClockEv
  | 0, _, x => x
  | n + 1, left, x =>
    match mostUrgent rank (left.filter (ready left)) with
    | none => x
    | some w => runWorks rank run n (left.erase w) (run w x)

/-! ### The work -/

/-- The vehicle record at the rollover (R18). -/
def Vehicle.rollover (v : Vehicle) : Vehicle :=
  { v with washDays := if v.ranToday then min (v.washDays + 1) 15 else v.washDays, ranToday := false }

/-- The key of some charge-eligible vehicle is not what it was (R148 step 4). -/
def eligibleKeyMoved (before after : State) : Bool :=
  after.fleet.any (fun v => after.eligible v && after.vehicleKey v != before.keyOf v.number)

/-- Removal and advance (R148 steps 2 and 3). -/
def State.advanceRoster (s : State) : State :=
  s.setDuties ((s.duties.filter (fun d => d.day == .next)).map (fun d => { d with day := .current }))

/-- The roster's rollover (R148). Its lapses recompute no lane; the flags of every lane are recomputed once (log 18). -/
def Ev.rosterRollover (e : Ev) : Ev :=
  let lapsing := e.s.inCallOrder (fun d => d.day == .current && d.canLapse)
  let e1 := lapsing.foldl (fun x d => x.lapseRecord d) e
  let e2 := e1.map (fun s => s.advanceRoster.recomputeAll)
  let e3 := (e2.wantPass (eligibleKeyMoved e.s e2.s)).firePass
  if e3.slot then { e3.map State.scan with slot := false } else e3

/-- DAY_ROLLOVER to the three ports, stamped with S (R152). -/
def State.tellRollover (dayStart : Nat) (s : State) : State :=
  s.post [.dispatch, .gate, .service]
    { s.blank .dayRollover with stamp := dayStart, value := some s.clock.day }

/-- The lapse test, the automatic binding and one scan (R135). -/
def Ev.pullOut (e : Ev) : Ev := { e.lapseTest.autoBind.map State.scan with slot := false }

/-- One piece of work. S is the service-day start of the rollover test, d the distance of the jump (1 where there is none),
and age the measure of elapsed time (R158). -/
def runWork (dayStart d : Nat) (age : Nat → Nat) (w : Work) (x : ClockEv) : ClockEv :=
  match w with
  | .fleetRollover => { x with e := x.e.map (State.mapFleet Vehicle.rollover) }
  | .rosterRollover =>
    let e := { x.e with sweep := false }.rosterRollover
    { e := { e with sweep := x.e.sweep }, rollSweep := e.sweep }
  | .rolloverNotice => { x with e := x.e.map (State.tellRollover dayStart) }
  | .rolloverSweep => if x.rollSweep then ⟨x.e.map State.sweepEnd, false⟩ else x
  | .dayStartChange =>
    { x with e := x.e.map (fun s => s.setClockFields { s.clock with sEff := s.params.dayStart }) }
  | .laneKeys => { x with e := x.e.map State.recomputeAll }
  | .placement => { x with e := x.e.map (State.testOverdueAll age) }
  | .stations => { x with e := x.e.map State.tickUnits }
  | .charge => { x with e := x.e.map (State.chargeWork d age) }
  | .pullOut => { x with e := x.e.pullOut }

/-- The work that a clock event brings: a rollover if one is delivered (R152), a change of S if one is written (R153), and
the minute event. -/
def worksOf (rollover dayStartMoves : Bool) : List Work :=
  (if rollover then [.fleetRollover, .rosterRollover, .rolloverNotice, .rolloverSweep] else []) ++
  (if dayStartMoves then [.dayStartChange, .laneKeys] else []) ++
  [.placement, .stations, .charge, .pullOut]

/-- The events that the clock delivers at the minute it now shows, with the order of the blocks' work given. -/
def State.deliverWith (rank : Work → Nat) (rollover : Bool) (d : Nat) (age : Nat → Nat) (s : State) : State :=
  let works := worksOf rollover (s.params.dayStart != s.clock.sEff)
  (runWorks rank (runWork s.clock.sEff d age) works.length works ⟨Ev.start s, false⟩).e.finish s

/-- The events that the clock delivers at the minute it now shows; the order of the blocks' work is a free value, drawn
afresh for each clock event (log 2). -/
def State.deliver (rollover : Bool) (d : Nat) (age : Nat → Nat) (s : State) : State :=
  (s.setFreeCount (s.freeCount + 1)).deliverWith (Config.workRank s.freeCount) rollover d age

/-! ### MINUTE_EVENT (R151) -/

/-- The clock at a minute boundary (R151 step 1). -/
def Clock.tick (c : Clock) : Clock :=
  if c.minute = 1439 then { c with minute := 0, day := (c.day + 1) % 65536, phase := 0 }
  else { c with minute := c.minute + 1, phase := 0 }

/-- A minute boundary of a clock that is set (R151). -/
def State.boundary (s : State) : State :=
  let t := s.setClockFields s.clock.tick
  t.deliver (t.clock.minute == t.clock.sEff) 1 (elapsed t.clock.minute)

/-- MINUTE_EVENT (R151); no boundary falls while the clock is UNSET (R150). -/
def execMinuteEvent (s : State) : Host.Outcome State Fault Refusal :=
  s.event (fun t => if t.clock.unset then t else t.boundary)

/-! ### SET_CLOCK (R154 to R157) -/

/-- The day distance of a jump, modulo 65536 (R154). -/
def daysFrom (d0 d1 : Nat) : Nat := (d1 + 65536 - d0) % 65536

/-- The class of a SET_CLOCK (R154). -/
def Clock.classify (c : Clock) (m1 d1 : Nat) : ClockClass :=
  let days := daysFrom c.day d1
  if c.unset then .first
  else if days = 0 ∧ m1 = c.minute then .same
  else if (days = 0 ∧ c.minute < m1) ∨ (1 ≤ days ∧ days ≤ 32767) then .forward
  else .backward

/-- The jump distance of a SET_CLOCK (R154). -/
def Clock.distance (c : Clock) (m1 d1 : Nat) : Nat :=
  match c.classify m1 d1 with
  | .first | .same => 0
  | .forward => 1440 * daysFrom c.day d1 + m1 - c.minute
  | .backward => 1440 * daysFrom d1 c.day + c.minute - m1

/-- The clock takes the new minute and day, clears UNSET, and its phase is 0 (R154). -/
def Clock.setTo (c : Clock) (m1 d1 : Nat) : Clock := { c with minute := m1, day := d1, unset := false, phase := 0 }

/-- Every capture present takes the new minute (R155, R157). -/
def Vehicle.restamp (m1 : Nat) (v : Vehicle) : Vehicle :=
  { v with lastReport := v.lastReport.map (fun _ => m1), placedAt := v.placedAt.map (fun _ => m1) }

/-- Does a SET_CLOCK deliver a rollover event: a forward jump whose span holds S in effect (R152, R156)? -/
def Clock.jumpRollsOver (c : Clock) (m1 d1 : Nat) : Bool :=
  c.classify m1 d1 == .forward && decide (minutesFrom c.sEff m1 < c.distance m1 d1)

/-- An accepted SET_CLOCK (R154 to R157). DESIGN CHOICE (log 38): at a FORWARD jump every capture tested is measured by the
jump's formula (R158), one taken by the rollover's sweep of the same jump too. -/
def State.jump (m1 d1 : Nat) (s : State) : State :=
  let t := s.setClockFields (s.clock.setTo m1 d1)
  match s.clock.classify m1 d1 with
  | .same => t
  | .first | .backward => (t.mapFleet (Vehicle.restamp m1)).deliver false 1 (elapsed m1)
  | .forward =>
    let d := s.clock.distance m1 d1
    t.deliver (s.clock.jumpRollsOver m1 d1) d (elapsedJump s.clock.minute d)

/-- What the reply to SET_CLOCK tells (R154). -/
def Clock.jumpReport (c : Clock) (m1 d1 : Nat) : ClockReport :=
  ⟨c.classify m1 d1, c.distance m1 d1, c.jumpRollsOver m1 d1, c.minute, c.day, m1, d1⟩

/-- SET_CLOCK (R154). The day counter is the two bytes of its field. -/
def execSetClock (h : Hdr) (minute day : Nat) (s : State) : Host.Outcome State Fault Refusal :=
  s.request h .setClock (h.len == 5) (fun t =>
    let d1 := day % 65536
    if 1439 < minute then (t, .refuse .range)
    else (t.jump minute d1, .accept (.clock (t.clock.jumpReport minute d1))))

end Sys2Proof.Machine
end

