-- ==== Sys2Proof/Machine/Store.lean ====
section
/-! DEFINITION. The Configuration Store (chapter 10): parameters, the image, saving and loading, start-up and resets. -/

namespace Sys2Proof.Machine

/-! ### Parameters (R173) -/

/-- How the value of a parameter is bounded (R173). -/
inductive ParamForm where
  | minute
  | onOff
  | quantity (lo hi : Nat)
  | step4
  deriving DecidableEq, Repr

/-- The table of R173. -/
def paramForm? : Nat → Option ParamForm
  | 1 => some .minute
  | 2 => some .minute
  | 3 => some (.quantity 0 60)
  | 4 => some (.quantity 30 480)
  | 5 => some (.quantity 2 30)
  | 6 => some (.quantity 1 8)
  | 7 => some (.quantity 0 30)
  | 8 => some .onOff
  | 9 => some (.quantity 5 60)
  | 10 => some (.quantity 1 30)
  | 11 => some (.quantity 0 10)
  | 12 => some (.quantity 0 50)
  | 13 => some .onOff
  | 14 => some (.quantity 1 15)
  | 15 => some (.quantity 5 95)
  | 16 => some (.quantity 1 60)
  | 17 => some (.quantity 1 60)
  | 18 => some (.quantity 1 12)
  | 19 => some (.quantity 1 8)
  | 20 => some .step4
  | 21 => some .step4
  | 22 => some .step4
  | _ => none

/-- The value that a parameter stores for a requested one, or the refusal (R173). -/
def ParamForm.store : ParamForm → Nat → Except RefuseCode Nat
  | .minute, v => if 1439 < v then .error .range else .ok v
  | .onOff, v => if 1 < v then .error .badForm else .ok v
  | .quantity lo hi, v => .ok (clamp lo hi v)
  | .step4, v => .ok (attentionStep v)

def Params.put (x : Params) (n v : Nat) : Params :=
  match n with
  | 1 => { x with dayStart := v }
  | 2 => { x with readyBy := v }
  | 3 => { x with margin := v }
  | 4 => { x with horizon := v }
  | 5 => { x with callLead := v }
  | 6 => { x with callWindow := v }
  | 7 => { x with grace := v }
  | 8 => { x with shortAtDue := v == 1 }
  | 9 => { x with placeTimeout := v }
  | 10 => { x with staleLimit := v }
  | 11 => { x with pMin := v }
  | 12 => { x with fallback := v }
  | 13 => { x with topUp := v == 1 }
  | 14 => { x with washInterval := v }
  | 15 => { x with refuelBelow := v }
  | 16 => { x with washPreset := v }
  | 17 => { x with fuelPreset := v }
  | 18 => { x with washLongAt := v }
  | 19 => { x with fuelLongAt := v }
  | 20 => { x with attnDispatch := v }
  | 21 => { x with attnGate := v }
  | 22 => { x with attnService := v }
  | _ => x

/-- The parameters in the order of R173, as the numbers that SET_PARAM writes. -/
def Params.values (x : Params) : List Nat :=
  [x.dayStart, x.readyBy, x.margin, x.horizon, x.callLead, x.callWindow, x.grace, flagCode x.shortAtDue,
   x.placeTimeout, x.staleLimit, x.pMin, x.fallback, flagCode x.topUp, x.washInterval, x.refuelBelow, x.washPreset,
   x.fuelPreset, x.washLongAt, x.fuelLongAt, x.attnDispatch, x.attnGate, x.attnService]

/-- A lowered fallback lowers the grants of stale vehicles at once (R92). -/
def State.lowerStale (s : State) : State :=
  s.mapFleet (fun v => if v.stale then { v with grant := s.toFallback v.grant } else v)

/-- A parameter is written, with the effects it has at once (R72, R92, R134, R173). The attention lines are computed from
the thresholds (R170). -/
def State.writeParam (n v : Nat) (s : State) : State :=
  let t := s.setParams (s.params.put n v)
  if n = 6 ∧ s.params.callWindow < v then (Ev.start t).freeSlot.finish s
  else if n = 12 ∧ v < s.params.fallback then t.lowerStale
  else if n = 18 then t.testLong .wash
  else if n = 19 then t.testLong .fuel
  else t

/-- The work of SET_PARAM (R134, R173). -/
def State.setParamWork (n v : Nat) (s : State) : State × Answer :=
  match paramForm? n with
  | none => (s, .refuse .unknown)
  | some form =>
    match form.store v with
    | .error c => (s, .refuse c)
    | .ok x =>
      if n = 6 ∧ x < s.window.length then (s, .refuse .stateConflict)
      else (s.writeParam n x, acceptOr (x != v) (.param n x))

/-- SET_PARAM (R173). -/
def execSetParam (h : Hdr) (number value : Nat) (s : State) : Host.Outcome State Fault Refusal :=
  s.request h .setParam (h.len == 4) (State.setParamWork number value)

/-! ### The image (R175) -/

/-- The content that a save copies (R175, R176). -/
def State.image (s : State) : Image :=
  ⟨s.params, s.charge.pending, s.charge.schedule, s.lanes.map Lane.defn, s.fleet.map Vehicle.image⟩

/-- CONFIG_DONE (R176, R177): operation 1 is SAVE, 2 is LOAD. -/
def State.tellDone (ok : Bool) (op : Nat) (s : State) : State :=
  s.post [.dispatch] { s.blank .configDone with value := some (if ok then 0 else 1), second := some op }

/-! ### SAVE_CONFIG (R176) -/

/-- The valid mark of the stored image is erased (R176). -/
def Flash.unmark (x : Flash) : Flash := { x with mark := false }

/-- A content written whole with its check, and read back as it was written: the valid mark is written last (R175, R176). -/
def Flash.written (x : Image) : Flash := ⟨some x, true, true⟩

/-- The image is valid where it bears its mark and its check matches (R175, R177). -/
def Flash.image? (x : Flash) : Option Image := if x.mark && x.checkOk then x.content else none

/-- SAVE_CONFIG (R176): the content is copied and the valid mark erased, so that from here the flash holds no valid image. -/
def execSaveConfig (h : Hdr) (s : State) : Host.Outcome State Fault Refusal :=
  s.request h .saveConfig (h.len == 1) (fun t =>
    (t.setStore { t.store with op := .saving t.image, flash := t.store.flash.unmark }, .accept .none))

/-- The save ends (R176); nothing where no save is in flight. A save that fails writes no valid mark; what content it
leaves is then of no effect (log 6). -/
def State.endSave (ok : Bool) (s : State) : State :=
  match s.store.op with
  | .saving copy =>
    (s.setStore { s.store with
      op := .idle, imageInvalid := !ok
      flash := if ok then Flash.written copy else s.store.flash.unmark }).tellDone ok 1
  | .idle | .loading => s

/-- CONFIG_SAVE_COMPLETION (R176): did the flash answer and the read-back match the copy. -/
def execConfigSaveCompletion (ok : Bool) (s : State) : Host.Outcome State Fault Refusal := s.event (State.endSave ok)

/-! ### LOAD_CONFIG (R177) -/

/-- A load can be accepted: the lanes are empty, the units CLOSED, and every vehicle ABSENT (R177). -/
def State.canLoad (s : State) : Bool :=
  allLanes.all (fun l => (s.lane l).isEmpty) && allUnits.all (fun u => (s.unit u).state == .closed) &&
  s.fleet.all (fun v => v.state == .absent)

/-- LOAD_CONFIG (R177). -/
def execLoadConfig (h : Hdr) (s : State) : Host.Outcome State Fault Refusal :=
  s.request h .loadConfig (h.len == 1) (fun t =>
    if t.canLoad then (t.setStore { t.store with op := .loading }, .accept .none) else (t, .refuse .stateConflict))

/-- A bound duty is unbound and becomes OPEN (R22, R132). -/
def Duty.release (d : Duty) : Duty :=
  match d.binding with
  | none => d
  | some _ => { d with state := .openState, binding := none }

/-- A valid image completes the load (R177 steps 1 to 7); the attention lines are computed (step 5). -/
def State.takeImage (x : Image) (s : State) : State :=
  let s1 := (s.setParams x.params).setLanes (emptyLanes x.lanes)
  let s2 := s1.setCharge
    { s1.charge with pending := x.limits, inForce := x.limits, schedule := x.schedule, pass := none, rerun := false }
  let s3 := (s2.setDuties (s2.duties.map Duty.release)).setFleet (x.vehicles.map ImageVehicle.restore)
  (s3.triggerPass.setStore { s3.store with op := .idle, imageInvalid := false }).tellDone true 2

/-- The valid image that the flash answers with, if it does. -/
def Store.readImage (x : Store) (answers : Bool) : Option Image := if answers then x.flash.image? else none

/-- The load ends (R177); nothing where no load is in flight. -/
def State.endLoad (answers : Bool) (s : State) : State :=
  match s.store.op with
  | .loading =>
    match s.store.readImage answers with
    | some x => s.takeImage x
    | none => (s.setStore { s.store with op := .idle, imageInvalid := true }).tellDone false 2
  | .idle | .saving _ => s

/-- CONFIG_LOAD_COMPLETION (R177): did the flash answer. -/
def execConfigLoadCompletion (answers : Bool) (s : State) : Host.Outcome State Fault Refusal :=
  s.event (State.endLoad answers)

/-! ### Start-up and resets (R178, R179) -/

/-- What the auto-load starts from: parameters, limits, schedule, lane definitions and vehicles (R22, R24, R113, R173). -/
def Image.default : Image := ⟨Params.default, Limits.zero, [], Vector.replicate 24 LaneDef.default, []⟩

/-- The part after power-up or a line reset, with the configuration that the auto-load leaves (R22, R46, R113, R150). -/
def State.coldWith (x : Image) (s : State) : State :=
  { s.emptied with
      params := x.params, clock := ⟨0, 0, true, x.params.dayStart, 0⟩
      fleet := x.vehicles.map ImageVehicle.restore, lanes := emptyLanes x.lanes
      charge := ⟨x.limits, x.limits, x.schedule, none, false, 0⟩ }

/-- The part comes up (R178): the straps are sampled, the image is tested, and it is loaded or the defaults are taken. -/
def State.startUp (cause : ResetCause) (straps : Straps) (answers : Bool) (s : State) : State :=
  let img := s.store.readImage answers
  let t := s.coldWith (match straps.autold, img with
    | true, some x => x
    | true, none => Image.default
    | false, _ => Image.default)
  { t with power := .running, pins := straps, store := ⟨cause, img.isNone, .idle, s.store.flash⟩ }

/-- POWER_UP (R178, R179). DESIGN CHOICE (log 23): given while the reset line is held low, it ends the hold: the part comes up
running as if the line were high, and a later RESET_LINE_RELEASE changes nothing. -/
def execPowerUp (straps : Straps) (answers : Bool) (s : State) : Host.Outcome State Fault Refusal :=
  .next (s.startUp .power straps answers)

/-- RESET_LINE_ASSERTION (R178): the part is emptied and held. The cause is written at the release, the image is tested
there, and the configuration is that of the defaults until then (log 23). -/
def execResetLineAssertion (s : State) : Host.Outcome State Fault Refusal :=
  .next { s.coldWith Image.default with power := .held, store := { s.store with op := .idle } }

/-- RESET_LINE_RELEASE (R178, R179); nothing where the line is not held low. -/
def execResetLineRelease (straps : Straps) (answers : Bool) (s : State) : Host.Outcome State Fault Refusal :=
  match s.power with
  | .running => .next s
  | .held => .next (s.startUp .line straps answers)

/-- RESTART, the request (R179): answered ACCEPT; the reset takes effect once the reply has been transmitted. -/
def execRestart (h : Hdr) (s : State) : Host.Outcome State Fault Refusal :=
  s.request h .restart (h.len == 1) (fun t => (t.setRestartPending true, .accept .none))

/-- RESTART_TAKES_EFFECT (R179); nothing where no RESTART has been answered. DEDUCED (log 10): given while
the reply to the RESTART still stands in the Dispatch transmitter, the command takes that reply as sent. -/
def execRestartTakesEffect (s : State) : Host.Outcome State Fault Refusal :=
  s.event (fun t => if t.restartPending then t.restarted else t)

end Sys2Proof.Machine
end

