-- ==== Sys2Proof/Machine/Reads.lean ====
section
/-! DEFINITION. The reads and TAKE_NOTICE (R21, R45, R87, R111, R112, R131, R168, R180), and a request of no known kind or
form (R164 step 1). -/

namespace Sys2Proof.Machine

/-! ### UNKNOWN_KIND_REQUEST (R164, R165) -/

/-- UNKNOWN_KIND_REQUEST: refused BAD_FORM, with the code echoed as it was received (R164 step 1, R165; log 28). -/
def execUnknownKindRequest (h : Hdr) (code : Nat) (s : State) : Host.Outcome State Fault Refusal :=
  s.taking h (fun t => (t.takeRequest h code).respond h code (.refuse .badForm))

/-! ### READ_STATUS (R180) -/

def State.statusReport (s : State) : StatusReport :=
  { cause := s.store.cause, imageInvalid := s.store.imageInvalid, op := s.store.op
    lock := s.pins.lock, autold := s.pins.autold, baud := s.pins.baud
    unset := s.clock.unset, minute := s.clock.minute, day := s.clock.day, sEff := s.clock.sEff
    params := s.params, vehicles := s.fleet.length, duties := s.duties.length }

/-- READ_STATUS (R180). -/
def execReadStatus (h : Hdr) (s : State) : Host.Outcome State Fault Refusal :=
  s.read h .readStatus (h.len == 1) (fun t => .accept (.status t.statusReport))

/-! ### TAKE_NOTICE (R168) -/

/-- The oldest notice of a port is removed and returned; an empty queue clears the overflowed flag (R168). -/
def State.takeNotice (p : PortId) (s : State) : State × Answer :=
  match (s.port p).notices with
  | [] => (s.modPort p (fun x => { x with overflowed := false }), .accept .none)
  | n :: rest => (s.modPort p (fun x => { x with notices := rest }), .accept (.notice n))

/-- TAKE_NOTICE (R168): the status byte is formed before the removal, and before the flag is cleared. -/
def execTakeNotice (h : Hdr) (s : State) : Host.Outcome State Fault Refusal :=
  s.taking h (fun r =>
    let t := r.takeRequest h ReqKind.takeNotice.code
    match refusalBefore h .takeNotice (h.len == 1) t with
    | some c => t.respond h ReqKind.takeNotice.code (.refuse c)
    | none => (t.takeNotice h.port).1.reply h.port ReqKind.takeNotice.code (t.status h.port) (t.takeNotice h.port).2)

/-! ### READ_VEHICLE (R21) -/

/-- READ_VEHICLE (R21). DEDUCED (log 40): the reply has the fields of R21's list, and so no pass state, which R99 says that
READ_GRANTS and READ_VEHICLE show. -/
def execReadVehicle (h : Hdr) (fleet : Nat) (s : State) : Host.Outcome State Fault Refusal :=
  s.read h .readVehicle (h.len == 3) (fun t =>
    match t.vehicle? fleet with
    | none => .refuse .unknown
    | some v => .accept (.vehicle ⟨v, t.location v, t.vehicleKey v⟩))

/-! ### READ_LANE (R45) -/

def State.parkedReport (s : State) (f : Nat) : Option ParkedReport :=
  (s.vehicle? f).map (fun v => ⟨f, v.state, s.vehicleKey v, v.blocked⟩)

def State.laneReport (s : State) (l : LaneId) : LaneReport :=
  { defn := (s.lane l).defn, occupied := s.occupied l, reserved := s.reservedLength l, free := s.freeLength l
    parked := (s.lane l).parked.filterMap s.parkedReport
    reservations := (s.lane l).reserved.map (fun f => (f, s.lengthOf f)) }

/-- READ_LANE (R45). -/
def execReadLane (h : Hdr) (lane : Nat) (s : State) : Host.Outcome State Fault Refusal :=
  s.read h .readLane (h.len == 2) (fun t =>
    match laneOf? lane with
    | none => .refuse .unknown
    | some l => .accept (.lane (t.laneReport l)))

/-! ### READ_DUTY (R131, R133) -/

/-- The place of a duty in the call window, oldest first from 1, and its short flag (R133). -/
def State.windowPlace (s : State) (n : Nat) : Option (Nat × Bool) :=
  (s.window.find? (fun w => w.duty == n)).map (fun w => (s.window.idxOf w + 1, w.short))

def State.dutyReport (s : State) (d : Duty) : DutyReport :=
  { record := d, key := s.dutyKey d
    vehicle := (d.binding.bind (fun b => s.vehicle? b.other)).map (fun v =>
      ⟨v.state, (s.location v).lane?, (s.location v).position?, v.level⟩)
    window := if d.state = .called then s.windowPlace d.number else none }

/-- READ_DUTY, form ONE (R131). -/
def execReadDutyOne (h : Hdr) (duty : Nat) (s : State) : Host.Outcome State Fault Refusal :=
  s.read h .readDuty (h.len == 4) (fun t =>
    match t.duty? duty with
    | none => .refuse .unknown
    | some d => .accept (.duty (t.dutyReport d)))

def State.dutyLine (s : State) (d : Duty) : DutyLine :=
  ⟨d.number, d.day, d.state, s.dutyKey d, d.binding.map Binding.other⟩

def allDutyStates : List DutyState := [.openState, .bound, .called, .released, .lapsed]

/-- The first 8 records from the starting number; the register stands in ascending duty number (R131). -/
def State.dutyListReport (s : State) (start : Nat) : DutyListReport :=
  let from_ := s.duties.filter (fun d => decide (start ≤ d.number))
  { used := s.duties.length
    counts := allDutyStates.map (fun st => s.duties.countP (fun d => d.state == st))
    entries := (from_.take 8).map s.dutyLine, more := decide (8 < from_.length) }

/-- READ_DUTY, form LIST (R131). -/
def execReadDutyList (h : Hdr) (start : Nat) (s : State) : Host.Outcome State Fault Refusal :=
  s.read h .readDuty (h.len == 4) (fun t =>
    if 4095 < start then .refuse .range else .accept (.dutyList (t.dutyListReport start)))

/-! ### READ_GRANTS (R111, R112) -/

/-- A vehicle is listed: plugged, and in an equipped lane of the scope, 0 being the whole depot (R111). -/
def State.inScope (s : State) (scope : Nat) (v : Vehicle) : Bool :=
  v.plugged &&
    match s.equippedLane? v with
    | none => false
    | some l => scope == 0 || laneNumber l == scope

def State.grantsReport (s : State) (scope start : Nat) : GrantsReport :=
  let listed := s.fleet.filter (fun v => s.inScope scope v && decide (start ≤ v.number))
  { passNumber := s.charge.passNumber, inFlight := s.charge.pass.isSome
    entries := (listed.take 8).map (fun v => ⟨v.number, v.grant, v.stale⟩), more := decide (8 < listed.length) }

/-- READ_GRANTS, form GRANTS (R111). -/
def execReadGrantsGrants (h : Hdr) (scope start : Nat) (s : State) : Host.Outcome State Fault Refusal :=
  s.read h .readGrants (h.len == 5) (fun t =>
    if 24 < scope then .refuse .unknown
    else if 9999 < start then .refuse .range
    else .accept (.grants (t.grantsReport scope start)))

def State.limitsReport (s : State) : LimitsReport :=
  ⟨s.charge.pending, s.charge.inForce, s.charge.schedule, s.charge.pass.isSome, s.charge.rerun, s.charge.passNumber⟩

/-- READ_GRANTS, form LIMITS (R112). -/
def execReadGrantsLimits (h : Hdr) (s : State) : Host.Outcome State Fault Refusal :=
  s.read h .readGrants (h.len == 2) (fun t => .accept (.limits t.limitsReport))

/-! ### READ_STATION (R87) -/

/-- The queue of a station with the level of each fuel entry (R87). -/
def State.queueReport (s : State) : Station → List (Nat × Option Bool)
  | .wash => s.stations.washQ.map (fun f => (f, none))
  | .fuel => s.stations.fuelQ.map (fun e => (e.fleet, some e.high))

def State.stationReport (s : State) (st : Station) : StationReport :=
  { unit1 := s.unit st.first, unit2 := s.unit st.second, isOpen := s.stationOpen st, queue := s.queueReport st
    length := (s.queue st).length, threshold := s.params.longAt st, long := s.stations.long st
    preset := s.params.preset st }

/-- READ_STATION (R87). -/
def execReadStation (h : Hdr) (station : Nat) (s : State) : Host.Outcome State Fault Refusal :=
  s.read h .readStation (h.len == 2) (fun t =>
    match station? station with
    | none => .refuse .unknown
    | some st => .accept (.station (t.stationReport st)))

end Sys2Proof.Machine
end

