-- ==== Sys2Proof/Machine/Line.lean ====
section
/-! DEFINITION. The lines (chapter 9): the receiver, the check, the inbound FIFO, and the end of a reply. -/

namespace Sys2Proof.Machine

/-! ### The check (R160) -/

/-- One bit of the cyclic code: the bit is combined with the top of the register (R160). -/
def checkBit (r : Check) (bit : Bool) : Check :=
  let out := r.msb != bit
  if out then (r <<< 1) ^^^ 0x1021 else r <<< 1

/-- One byte, most significant bit first (R160). -/
def checkByte (r : Check) (b : Byte) : Check :=
  [b[7], b[6], b[5], b[4], b[3], b[2], b[1], b[0]].foldl checkBit r

/-- The code over a list of bytes, the register starting at 0xFFFF (R160). -/
def checkOf (l : List Byte) : Check := l.foldl checkByte 0xFFFF

/-- The check of a telegram is computed over its length byte and its body (R160). -/
def telegramCheck (body : List Byte) : Check := checkOf (byteOf body.length :: body)

/-- The two check bytes, high byte first (R160). -/
def checkBytes (c : Check) : List Byte := [c.extractLsb' 8 8, c.extractLsb' 0 8]

/-- The characters of a telegram with this body (R159, R160, R172). -/
def frame (body : List Byte) : List Byte := 0xC3 :: byteOf body.length :: body ++ checkBytes (telegramCheck body)

/-! ### The receiver and the inbound FIFO (R159 to R161) -/

/-- A checked telegram joins the FIFO, or is lost and the overrun flag set (R161). -/
def Port.join (body : List Byte) (x : Port) : Port :=
  if x.fifo.length < 4 then { x with fifo := x.fifo ++ [body] } else { x with overrun := true }

/-- An assembled telegram is tested: a wrong length (R159) or a wrong check (R160) discards it. The receiver is in HUNT. -/
def Port.test (body : List Byte) (check : Check) (x : Port) : Port :=
  let y := { x with rx := .hunt }
  if 1 ≤ body.length ∧ body.length ≤ 60 ∧ check = telegramCheck body then y.join body else y

/-- One character at the receiver (R159). -/
def Port.take (c : Byte) (x : Port) : Port :=
  match x.rx with
  | .hunt => if c = 0xC3 then { x with rx := .length } else x
  | .length => if 1 ≤ c.toNat ∧ c.toNat ≤ 60 then { x with rx := .body c.toNat [] } else { x with rx := .hunt }
  | .body n got =>
    if got.length + 1 < n then { x with rx := .body n (got ++ [c]) } else { x with rx := .check (got ++ [c]) none }
  | .check body none => { x with rx := .check body (some c) }
  | .check body (some hi) => x.test body (hi ++ c)

/-- TELEGRAM_RECEIVED (R160, R161): a telegram with this body and this check has been assembled (log 4). -/
def execTelegramReceived (p : PortId) (body : List Byte) (check : Check) (s : State) : Host.Outcome State Fault Refusal :=
  s.event (State.modPort p (Port.test body check))

/-- CHARACTER_RECEIVED (R159); a framing error discards the telegram being assembled. -/
def execCharacterReceived (p : PortId) (c : Byte) (framingError : Bool) (s : State) : Host.Outcome State Fault Refusal :=
  s.event (State.modPort p (fun x => if framingError then { x with rx := .hunt } else x.take c))

/-- CHARACTER_GAP_TIMEOUT (R159): the partial telegram is discarded. -/
def execCharacterGapTimeout (p : PortId) (s : State) : Host.Outcome State Fault Refusal :=
  s.event (State.modPort p (fun x => { x with rx := .hunt }))

/-- REPLY_TRANSMITTED (R161); nothing where no reply is being transmitted. -/
def execReplyTransmitted (p : PortId) (s : State) : Host.Outcome State Fault Refusal := s.event (State.endReply p)

/-! ### What the part takes when no command waits (R162, R179; log 1) -/

def allPorts : List PortId := [.dispatch, .gate, .service]

/-- A port can take the request at the head of its FIFO: the reply before it has been sent (R162). -/
def State.headRequest (s : State) (p : PortId) : Option (List Byte) :=
  match (s.port p).tx with
  | some _ => none
  | none => (s.port p).fifo.head?

/-- The command that the part takes next of its own: a RESTART whose reply has been sent, then the heads of the inbound
FIFOs (log 1). -/
def State.serveNext (s : State) : Option Instr :=
  match s.power with
  | .held => none
  | .running =>
    if s.restartPending && (s.port .dispatch).tx.isNone then some .restartTakesEffect
    else allPorts.findSome? (fun p => (s.headRequest p).map (decodeRequest p s.pins.lock))

end Sys2Proof.Machine
end

