-- ==== Sys2Proof/Machine/Layout.lean ====
section
/-! DEFINITION. The bytes of a reply telegram (R165, R172): header, result fields in the order of the rule that gives
them, and the notice record. -/

namespace Sys2Proof.Machine

/-! ### Fields (R172) -/

/-- One byte. -/
def b1 (n : Nat) : List Byte := [byteOf n]

/-- A yes/no field. -/
def flagByte (b : Bool) : List Byte := b1 (flagCode b)

/-- An optional field: a presence byte, and the field where it is present (R172). -/
def optionBytes {α : Type} (f : α → List Byte) : Option α → List Byte
  | none => b1 0
  | some x => b1 1 ++ f x

/-- A list of varying length: a one-byte count, then the entries (R172). -/
def listBytes {α : Type} (f : α → List Byte) (l : List α) : List Byte := b1 l.length ++ l.flatMap f

def Place.code : Place → Nat
  | .lane l => laneNumber l
  | .unit u => u.code
  | .station st => st.code

/-- The presence bits of a notice record (R172). -/
def Notice.presence (n : Notice) : Nat :=
  flagCode n.fleet.isSome + 2 * flagCode n.duty.isSome + 4 * flagCode n.place.isSome + 8 * flagCode n.value.isSome +
  16 * flagCode n.second.isSome

/-- The notice record, 13 bytes (R172). -/
def Notice.bytes (n : Notice) : List Byte :=
  b1 n.kind.code ++ b1 n.presence ++ wordBytes n.stamp ++ wordBytes (n.fleet.getD 0) ++ wordBytes (n.duty.getD 0) ++
  b1 ((n.place.map Place.code).getD 0) ++ wordBytes (n.value.getD 0) ++ wordBytes (n.second.getD 0)

/-- The status byte (R172). -/
def Status.toByte (x : Status) : Byte :=
  byteOf (x.gauge + 16 * flagCode x.overflowed + 32 * flagCode x.overrun + 64 * flagCode x.attention +
    128 * flagCode x.empty)

/-! ### Result fields -/

/-- A location, where there is one: the apron place; the queue and the place in it; the unit; the lane; or the lane and the
position (R1, R3, R172; log 14). -/
def locationBytes (x : Location) : List Byte :=
  match x with
  | .nowhere => b1 0
  | .apron place => b1 1 ++ b1 place
  | .queue st place => b1 1 ++ b1 st.code ++ b1 place
  | .onUnit u => b1 1 ++ b1 u.code
  | .reserved l => b1 1 ++ b1 (laneNumber l)
  | .parked l position => b1 1 ++ b1 (laneNumber l) ++ b1 position

/-- The line rate in baud that the BAUD strap selects (R159). -/
def lineRate (baud : Bool) : Nat := if baud then 57600 else 19200

/-- A field of one parameter: two bytes for parameters 1, 2 and 4, whose ranges do not fit one (R172, R173). -/
def paramBytes (n v : Nat) : List Byte := if n = 1 ∨ n = 2 ∨ n = 4 then wordBytes v else b1 v

/-- The 22 parameters in the order of R173. -/
def Params.bytes (x : Params) : List Byte := (x.values.zipIdx 1).flatMap (fun p => paramBytes p.2 p.1)

def stationByte (st : Station) : List Byte := b1 st.code

def StatusReport.bytes (r : StatusReport) : List Byte :=
  b1 r.cause.code ++ flagByte r.imageInvalid ++ b1 r.op.code ++ flagByte r.lock ++ flagByte r.autold ++
  wordBytes (lineRate r.baud) ++ flagByte r.unset ++ wordBytes r.minute ++ wordBytes r.day ++ wordBytes r.sEff ++
  r.params.bytes ++ b1 r.vehicles ++ wordBytes r.duties

/-- READ_VEHICLE, in the order of R21; fixed binding is present only with a bound duty (R1). -/
def VehicleReport.bytes (r : VehicleReport) : List Byte :=
  let v := r.record
  wordBytes v.number ++ b1 v.cls.code ++ b1 v.kind.code ++ wordBytes v.capacity ++ wordBytes v.target ++
  b1 v.washDays ++ wordBytes v.level ++ flagByte v.stale ++ optionBytes wordBytes v.lastReport ++ flagByte v.held ++
  b1 v.state.code ++ locationBytes r.location ++ listBytes stationByte v.route ++ flagByte v.washOwed ++
  flagByte v.fuelOwed ++ flagByte v.ranToday ++ flagByte v.plugged ++ wordBytes v.grant ++
  optionBytes wordBytes (v.binding.map Binding.other) ++ optionBytes flagByte (v.binding.map Binding.fixed) ++
  flagByte v.blocked ++ optionBytes wordBytes v.placedAt ++ wordBytes r.key

/-- The fields of a lane definition, in the order of R24. -/
def LaneDef.bytes (d : LaneDef) : List Byte :=
  b1 d.kind.code ++ b1 d.capacity ++ flagByte d.equipped ++ wordBytes d.rating ++ b1 (groupNumber d.group) ++
  flagByte d.lowClearance ++ flagByte d.shortTurn ++ flagByte d.isOpen

def ParkedReport.bytes (r : ParkedReport) : List Byte :=
  wordBytes r.fleet ++ b1 r.state.code ++ wordBytes r.key ++ flagByte r.blocked

def LaneReport.bytes (r : LaneReport) : List Byte :=
  r.defn.bytes ++ b1 r.occupied ++ b1 r.reserved ++ b1 r.free ++ listBytes ParkedReport.bytes r.parked ++
  listBytes (fun (x : Nat × Nat) => wordBytes x.1 ++ b1 x.2) r.reservations

def classRequiredCode : Option VClass → Nat
  | some c => c.code
  | none => 5

def kindRequiredCode : Option Kind → Nat
  | some k => k.code
  | none => 3

/-- The fields of a duty record, in the order of R115. The notice flags are a yes/no byte each, in the order in which R115
names them; PRESUMED (log 13), since R172 codes no set. -/
def Duty.bytes (d : Duty) : List Byte :=
  wordBytes d.number ++ b1 d.day.code ++ wordBytes d.due ++ b1 (classRequiredCode d.cls) ++ b1 (kindRequiredCode d.kind) ++
  wordBytes d.minLevel ++ flagByte d.wash ++ b1 (if d.high then 1 else 2) ++ b1 d.state.code ++
  optionBytes wordBytes (d.binding.map Binding.other) ++ optionBytes flagByte (d.binding.map Binding.fixed) ++
  optionBytes wordBytes d.departed ++ flagByte d.uncovered ++ flagByte d.notReady ++ flagByte d.shuntNeeded ++
  flagByte d.lowEnergy

/-- READ_DUTY ONE (R131, R133), each optional field behind its own presence byte (R172). PRESUMED (log 13): the place in the
window and the short flag stand last. -/
def DutyReport.bytes (r : DutyReport) : List Byte :=
  r.record.bytes ++ wordBytes r.key ++
  optionBytes (fun x => b1 x.code) (r.vehicle.map BoundReport.state) ++
  optionBytes (fun l => b1 (laneNumber l)) (r.vehicle.bind BoundReport.lane) ++
  optionBytes b1 (r.vehicle.bind BoundReport.position) ++
  optionBytes wordBytes (r.vehicle.map BoundReport.level) ++
  optionBytes b1 (r.window.map Prod.fst) ++ optionBytes flagByte (r.window.map Prod.snd)

def DutyLine.bytes (r : DutyLine) : List Byte :=
  wordBytes r.number ++ b1 r.day.code ++ b1 r.state.code ++ wordBytes r.key ++ optionBytes wordBytes r.vehicle

def DutyListReport.bytes (r : DutyListReport) : List Byte :=
  wordBytes r.used ++ r.counts.flatMap wordBytes ++ listBytes DutyLine.bytes r.entries ++ flagByte r.more

/-- The pass state: IDLE 1, IN_FLIGHT 2. -/
def passStateByte (inFlight : Bool) : List Byte := b1 (if inFlight then 2 else 1)

/-- READ_GRANTS, form GRANTS (R111, R172). -/
def GrantsReport.bytes (r : GrantsReport) : List Byte :=
  b1 r.passNumber ++ passStateByte r.inFlight ++
  listBytes (fun (g : GrantLine) => wordBytes g.fleet ++ wordBytes g.grant ++ flagByte g.stale) r.entries ++
  flagByte r.more

def Limits.bytes (l : Limits) : List Byte := l.group.toList.flatMap wordBytes ++ wordBytes l.depot

def scheduleBytes (l : List SchedEntry) : List Byte :=
  listBytes (fun (e : SchedEntry) => wordBytes e.minute ++ wordBytes e.limit) l

def LimitsReport.bytes (r : LimitsReport) : List Byte :=
  r.pending.bytes ++ r.inForce.bytes ++ scheduleBytes r.schedule ++ passStateByte r.inFlight ++ flagByte r.rerun ++
  b1 r.passNumber

def StationUnit.bytes (x : StationUnit) : List Byte :=
  b1 x.state.code ++ optionBytes wordBytes x.vehicle ++ optionBytes b1 x.timer ++ b1 x.overruns ++ flagByte x.closing ++
  flagByte x.faultPending

/-- An entry of a queue: the fleet number, and in the fuel queue the level, HIGH 1 or NORMAL 2 (R87). -/
def queueEntryBytes (x : Nat × Option Bool) : List Byte :=
  wordBytes x.1 ++
  (match x.2 with
  | none => []
  | some high => b1 (if high then 1 else 2))

def StationReport.bytes (r : StationReport) : List Byte :=
  r.unit1.bytes ++ r.unit2.bytes ++ flagByte r.isOpen ++ listBytes queueEntryBytes r.queue ++ b1 r.length ++
  b1 r.threshold ++ flagByte r.long ++ b1 r.preset

/-- A jump distance in its two bytes, with a free value where it does not fit them (log 15). -/
def distanceBytes (d : Nat) : List Byte := wordBytes (if d ≤ 65535 then d else (Config.longDistance d).toNat)

def ClockReport.bytes (r : ClockReport) : List Byte :=
  b1 r.cls.code ++ distanceBytes r.distance ++ flagByte r.rollover ++ wordBytes r.oldMinute ++ wordBytes r.oldDay ++
  wordBytes r.newMinute ++ wordBytes r.newDay

def BindReport.bytes (r : BindReport) : List Byte :=
  b1 r.state.code ++ wordBytes r.key ++ wordBytes r.vehicle ++ optionBytes wordBytes r.unbound ++
  b1 r.vehicleState.code ++ wordBytes r.level

def GateInReport.bytes (r : GateInReport) : List Byte :=
  listBytes stationByte r.route ++ listBytes stationByte r.skipped ++ b1 r.state.code ++
  locationBytes r.location ++ optionBytes b1 r.stage

/-- GATE_OUT: a release 1, an unscheduled departure 2. -/
def GateOutReport.bytes (r : GateOutReport) : List Byte :=
  b1 (if r.release then 1 else 2) ++ optionBytes wordBytes r.duty ++ optionBytes flagByte r.short ++ b1 r.state.code ++
  optionBytes (fun l => b1 (laneNumber l)) r.lane ++ optionBytes b1 r.position

def SurveyReport.bytes (r : SurveyReport) : List Byte :=
  b1 r.retained ++ b1 r.unknown ++ b1 r.pastCapacity ++ b1 r.madeAbsent ++ b1 r.dropped

/-- The result fields of a reply (R172). -/
def Result.bytes : Result → List Byte
  | .none => []
  | .status r => r.bytes
  | .notice n => n.bytes
  | .vehicle r => r.bytes
  | .lane r => r.bytes
  | .duty r => r.bytes
  | .dutyList r => r.bytes
  | .grants r => r.bytes
  | .limits r => r.bytes
  | .station r => r.bytes
  | .clock r => r.bytes
  | .param n v => b1 n ++ wordBytes v
  | .pendingLimits l => l.bytes
  | .schedule l => scheduleBytes l
  | .laneDefined d => d.bytes
  | .registered capacity target isNew => wordBytes capacity ++ wordBytes target ++ b1 (if isNew then 1 else 2)
  | .dutyLoaded d key o => d.bytes ++ wordBytes key ++ b1 o.code
  | .dutyCancelled st unbound => b1 st.code ++ optionBytes wordBytes unbound
  | .dutyBound r => r.bytes
  | .dutyUnbound v => optionBytes wordBytes v
  | .gateIn r => r.bytes
  | .gateOut r => r.bytes
  | .entered position dropped => b1 position ++ b1 dropped
  | .surveyed r => r.bytes
  | .unitState st closing faultPending => b1 st.code ++ flagByte closing ++ flagByte faultPending
  | .served st loc unit next => b1 st.code ++ locationBytes loc ++ b1 unit.code ++ optionBytes wordBytes next

/-! ### The reply (R165, R172) -/

/-- The body of a reply: reply kind, echoed kind, status byte, then the refusal code or the result fields. -/
def Reply.body (r : Reply) : List Byte :=
  match r.answer with
  | .accept x => b1 1 ++ b1 r.echoed ++ [r.status.toByte] ++ x.bytes
  | .adjusted x => b1 2 ++ b1 r.echoed ++ [r.status.toByte] ++ x.bytes
  | .refuse c => b1 3 ++ b1 r.echoed ++ [r.status.toByte] ++ b1 c.code

/-- The characters that a port transmits for its reply (R160, R172). -/
def State.txFrame (s : State) (p : PortId) : List Byte :=
  match (s.port p).tx with
  | none => []
  | some r => frame r.body

end Sys2Proof.Machine
end

