-- ==== Sys2Proof/Machine/Dispatch.lean ====
section
/-! DEFINITION. The commands and their meanings, one arm each. -/

namespace Sys2Proof.Machine

/-- The effect of a command on everything but the queue of waiting commands. -/
def exec (i : Instr) (s : State) : Host.Outcome State Fault Refusal :=
  match i with
  | .telegramReceived p body check => Sys2Proof.Machine.execTelegramReceived p body check s
  | .characterGapTimeout p => Sys2Proof.Machine.execCharacterGapTimeout p s
  | .replyTransmitted p => Sys2Proof.Machine.execReplyTransmitted p s
  | .unknownKindRequest h code => Sys2Proof.Machine.execUnknownKindRequest h code s
  | .readStatus h => Sys2Proof.Machine.execReadStatus h s
  | .takeNotice h => Sys2Proof.Machine.execTakeNotice h s
  | .readVehicle h fleet => Sys2Proof.Machine.execReadVehicle h fleet s
  | .readLane h lane => Sys2Proof.Machine.execReadLane h lane s
  | .readDutyOne h duty => Sys2Proof.Machine.execReadDutyOne h duty s
  | .readDutyList h start => Sys2Proof.Machine.execReadDutyList h start s
  | .readGrantsGrants h scope start => Sys2Proof.Machine.execReadGrantsGrants h scope start s
  | .readGrantsLimits h => Sys2Proof.Machine.execReadGrantsLimits h s
  | .readStation h station => Sys2Proof.Machine.execReadStation h station s
  | .setClock h minute day => Sys2Proof.Machine.execSetClock h minute day s
  | .setParam h number value => Sys2Proof.Machine.execSetParam h number value s
  | .setLimits h l1 l2 l3 l4 depot => Sys2Proof.Machine.execSetLimits h l1 l2 l3 l4 depot s
  | .setSchedulePut h minute limit => Sys2Proof.Machine.execSetSchedulePut h minute limit s
  | .setScheduleRemove h minute => Sys2Proof.Machine.execSetScheduleRemove h minute s
  | .setScheduleClear h => Sys2Proof.Machine.execSetScheduleClear h s
  | .defineLane h d => Sys2Proof.Machine.execDefineLane h d s
  | .registerVehicle h fleet cls kind capacity target => Sys2Proof.Machine.execRegisterVehicle h fleet cls kind capacity target s
  | .retireVehicle h fleet => Sys2Proof.Machine.execRetireVehicle h fleet s
  | .setHoldOn h fleet on => Sys2Proof.Machine.execSetHoldOn h fleet on s
  | .setHoldOff h fleet => Sys2Proof.Machine.execSetHoldOff h fleet s
  | .loadDuty h d => Sys2Proof.Machine.execLoadDuty h d s
  | .cancelDuty h duty => Sys2Proof.Machine.execCancelDuty h duty s
  | .bindDuty h duty fleet => Sys2Proof.Machine.execBindDuty h duty fleet s
  | .unbindDuty h duty => Sys2Proof.Machine.execUnbindDuty h duty s
  | .saveConfig h => Sys2Proof.Machine.execSaveConfig h s
  | .loadConfig h => Sys2Proof.Machine.execLoadConfig h s
  | .restart h => Sys2Proof.Machine.execRestart h s
  | .restartTakesEffect => Sys2Proof.Machine.execRestartTakesEffect s
  | .gateIn h fleet level wash => Sys2Proof.Machine.execGateIn h fleet level wash s
  | .gateOut h fleet => Sys2Proof.Machine.execGateOut h fleet s
  | .laneEntry h fleet lane => Sys2Proof.Machine.execLaneEntry h fleet lane s
  | .laneContent h lane count fleets => Sys2Proof.Machine.execLaneContent h lane count fleets s
  | .plug h fleet yes => Sys2Proof.Machine.execPlug h fleet yes s
  | .energyReport h fleet level => Sys2Proof.Machine.execEnergyReport h fleet level s
  | .stationState h unitCode reported => Sys2Proof.Machine.execStationState h unitCode reported s
  | .serviceDone h unitCode fleet result level => Sys2Proof.Machine.execServiceDone h unitCode fleet result level s
  | .minuteEvent => Sys2Proof.Machine.execMinuteEvent s
  | .allotmentPassCompletion => Sys2Proof.Machine.execAllotmentPassCompletion s
  | .staleMeter fleet => Sys2Proof.Machine.execStaleMeter fleet s
  | .placementOverdue fleet => Sys2Proof.Machine.execPlacementOverdue fleet s
  | .turnOverrun u => Sys2Proof.Machine.execTurnOverrun u s
  | .lapse duty => Sys2Proof.Machine.execLapse duty s
  | .configSaveCompletion ok => Sys2Proof.Machine.execConfigSaveCompletion ok s
  | .configLoadCompletion answers => Sys2Proof.Machine.execConfigLoadCompletion answers s
  | .powerUp straps answers => Sys2Proof.Machine.execPowerUp straps answers s
  | .resetLineAssertion => Sys2Proof.Machine.execResetLineAssertion s
  | .resetLineRelease straps answers => Sys2Proof.Machine.execResetLineRelease straps answers s
  | .characterReceived p c framingError => Sys2Proof.Machine.execCharacterReceived p c framingError s

end Sys2Proof.Machine
end

