-- ==== Sys2Proof/Machine/Step.lean ====
section
/-! DEFINITION. One step: the command at the front of the queue; what the part takes of its own where none waits. -/

namespace Sys2Proof.Machine

/-- One step. With no command waiting, the part takes a RESTART whose reply has been sent, or the head of an inbound FIFO;
with none of these it idles (log 1). -/
def step (s : State) : Host.Outcome State Fault Refusal :=
  match s.pending with
  | c :: rest => exec c { s with pending := rest }
  | [] =>
    match s.serveNext with
    | some c => exec c s
    | none => .next s

/-- The part with the command that a table word spells at the front of its queue; the table spells none. -/
def State.withFetchWord (s : State) (nbits w : Nat) : State :=
  match decodeTableWord nbits w with
  | some c => { s with pending := c :: s.pending }
  | none => s

end Sys2Proof.Machine
end

