-- ==== Sys2Proof/Safety.lean ====
section
/-! DEFINITION. What claims are stated with: the request tables of R163, R172, R174 and R176 as the spec prints them, what
a command leaves unchanged, and what holds of every state the part should reach. -/

namespace Sys2Proof

open Machine

/-! ### The request tables -/

/-- The kind of a request command (R163); none for the other commands and for a request of no known kind. -/
def Instr.kind? : Instr → Option ReqKind
  | .readStatus _ => some .readStatus
  | .takeNotice _ => some .takeNotice
  | .readVehicle _ _ => some .readVehicle
  | .readLane _ _ => some .readLane
  | .readDutyOne _ _ | .readDutyList _ _ => some .readDuty
  | .readGrantsGrants _ _ _ | .readGrantsLimits _ => some .readGrants
  | .readStation _ _ => some .readStation
  | .setClock _ _ _ => some .setClock
  | .setParam _ _ _ => some .setParam
  | .setLimits _ _ _ _ _ _ => some .setLimits
  | .setSchedulePut _ _ _ | .setScheduleRemove _ _ | .setScheduleClear _ => some .setSchedule
  | .defineLane _ _ => some .defineLane
  | .registerVehicle _ _ _ _ _ _ => some .registerVehicle
  | .retireVehicle _ _ => some .retireVehicle
  | .setHoldOn _ _ _ | .setHoldOff _ _ => some .setHold
  | .loadDuty _ _ => some .loadDuty
  | .cancelDuty _ _ => some .cancelDuty
  | .bindDuty _ _ _ => some .bindDuty
  | .unbindDuty _ _ => some .unbindDuty
  | .saveConfig _ => some .saveConfig
  | .loadConfig _ => some .loadConfig
  | .restart _ => some .restart
  | .gateIn _ _ _ _ => some .gateIn
  | .gateOut _ _ => some .gateOut
  | .laneEntry _ _ _ => some .laneEntry
  | .laneContent _ _ _ _ => some .laneContent
  | .plug _ _ _ => some .plug
  | .energyReport _ _ _ => some .energyReport
  | .stationState _ _ _ => some .stationState
  | .serviceDone _ _ _ _ _ => some .serviceDone
  | .unknownKindRequest _ _ | .telegramReceived _ _ _ | .characterGapTimeout _ | .replyTransmitted _
  | .restartTakesEffect | .minuteEvent | .allotmentPassCompletion | .staleMeter _ | .placementOverdue _
  | .turnOverrun _ | .lapse _ | .configSaveCompletion _ | .configLoadCompletion _ | .powerUp _ _
  | .resetLineAssertion | .resetLineRelease _ _ | .characterReceived _ _ _ => none

/-- The body length that the fields of a request take (R172); for LANE_CONTENT it follows from the count. -/
def Instr.bodyLength : Instr → Nat
  | .setScheduleClear _ | .readGrantsLimits _ | .readLane _ _ | .readStation _ _ => 2
  | .readDutyOne _ _ | .readDutyList _ _ | .setParam _ _ _ | .setScheduleRemove _ _ | .setHoldOn _ _ _
  | .setHoldOff _ _ | .laneEntry _ _ _ | .plug _ _ _ => 4
  | .readVehicle _ _ | .retireVehicle _ _ | .cancelDuty _ _ | .unbindDuty _ _ | .gateOut _ _ | .stationState _ _ _ => 3
  | .readGrantsGrants _ _ _ | .setClock _ _ _ | .bindDuty _ _ _ | .energyReport _ _ _ => 5
  | .setSchedulePut _ _ _ | .gateIn _ _ _ _ => 6
  | .serviceDone _ _ _ _ _ => 7
  | .registerVehicle _ _ _ _ _ _ => 9
  | .setLimits _ _ _ _ _ _ | .defineLane _ _ => 11
  | .loadDuty _ _ => 12
  | .laneContent _ _ n _ => 3 + 2 * n
  | .readStatus _ | .takeNotice _ | .saveConfig _ | .loadConfig _ | .restart _ => 1
  | .unknownKindRequest _ _ | .telegramReceived _ _ _ | .characterGapTimeout _ | .replyTransmitted _
  | .restartTakesEffect | .minuteEvent | .allotmentPassCompletion | .staleMeter _ | .placementOverdue _
  | .turnOverrun _ | .lapse _ | .configSaveCompletion _ | .configLoadCompletion _ | .powerUp _ _
  | .resetLineAssertion | .resetLineRelease _ _ | .characterReceived _ _ _ => 0

/-- A LANE_CONTENT carries at most 16 numbers (R164 step 1). -/
def Instr.countOk : Instr → Bool
  | .laneContent _ _ n _ => n ≤ 16
  | _ => true

namespace Machine

/-- The access table of R163, by kind code. -/
def mayUse (code : Nat) : PortId → Bool
  | .dispatch => code ≤ 0x07 || (0x10 ≤ code && code ≤ 0x1E)
  | .gate => code ≤ 0x07 || code == 0x20 || code == 0x21
  | .service => code ≤ 0x07 || (0x30 ≤ code && code ≤ 0x35)

/-- The codes refused LOCKED while the strap is active (R174): SET_PARAM, SET_LIMITS, SET_SCHEDULE, DEFINE_LANE,
REGISTER_VEHICLE, RETIRE_VEHICLE, SAVE_CONFIG, LOAD_CONFIG. -/
def lockedCodes : List Nat := [0x11, 0x12, 0x13, 0x14, 0x15, 0x16, 0x1C, 0x1D]

/-- The codes refused BUSY while a save is in flight (R176): the same and RESTART. -/
def busyInSave : List Nat := 0x1E :: lockedCodes

/-- The configuration operation in flight lets a request through (R164 step 4). -/
def ConfigOp.admits : ConfigOp → Nat → Bool
  | .idle, _ => true
  | .saving _, code => !busyInSave.contains code
  | .loading, code => code ≤ 0x07

/-- The part takes a request of this header: it is running, and no RESTART answered before it on its port is about to discard
it (R171, R178). -/
def Taken (h : Hdr) (s : State) : Prop := s.power = .running ∧ (h.port = .dispatch → s.restartPending = false)

/-- A request of this code is taken, and passes steps 2 to 4 of R164. -/
def Clear (h : Hdr) (code : Nat) (s : State) : Prop :=
  Taken h s ∧ mayUse code h.port = true ∧ (h.lock = true → code ∉ lockedCodes) ∧ s.store.op.admits code = true

/-! ### Answers -/

/-- The part after a request that was answered and changed nothing else (R161, R165). -/
def State.answered (h : Hdr) (code : Nat) (a : Answer) (s : State) : State := (s.takeRequest h code).respond h code a

/-- The answer of the reply that a port is transmitting. -/
def State.answerOn (s : State) (p : PortId) : Option Answer := (s.port p).tx.map Reply.answer

/-! ### Frames -/

/-- What no request changes but those that configure, set the clock or reset. -/
structure SameControl (s t : State) : Prop where
  power : t.power = s.power
  straps : t.pins.autold = s.pins.autold ∧ t.pins.baud = s.pins.baud
  store : t.store = s.store
  restart : t.restartPending = s.restartPending
  params : t.params = s.params
  clock : t.clock = s.clock
  freeCount : t.freeCount = s.freeCount
  pending : t.pending = s.pending

/-- The receiver, FIFO, transmitter and overrun flag of the ports other than p are as they were. -/
def SameLines (p : PortId) (s t : State) : Prop :=
  ∀ q, q ≠ p → (t.port q).rx = (s.port q).rx ∧ (t.port q).fifo = (s.port q).fifo ∧ (t.port q).tx = (s.port q).tx ∧
    (t.port q).overrun = (s.port q).overrun

/-- The ports other than p are as they were, their notices too. -/
def SamePorts (p : PortId) (s t : State) : Prop := ∀ q, q ≠ p → t.port q = s.port q

/-- Every vehicle record but that of f is as it was. -/
def SameVehicles (f : Nat) (s t : State) : Prop := ∀ g, g ≠ f → t.vehicle? g = s.vehicle? g

/-- Every vehicle record but that of f is as it was, apart from its blocked flag. -/
def SameVehiclesButBlocked (f : Nat) (s t : State) : Prop :=
  ∀ g w, g ≠ f → s.vehicle? g = some w → ∃ b, t.vehicle? g = some { w with blocked := b }

/-- Every duty record but that of n is as it was. -/
def SameDuties (n : Nat) (s t : State) : Prop := ∀ m, m ≠ n → t.duty? m = s.duty? m

/-- Every duty record but that of n is as it was, apart from what a scan does: a BOUND duty may be CALLED, and the notice flags of
readiness may change (R137, R138). -/
def SameDutiesButCalls (n : Nat) (s t : State) : Prop :=
  ∀ m d, m ≠ n → s.duty? m = some d → ∃ e, t.duty? m = some e ∧
    e = { d with state := e.state, notReady := e.notReady, shuntNeeded := e.shuntNeeded, lowEnergy := e.lowEnergy } ∧
    (e.state = d.state ∨ (d.state = .bound ∧ e.state = .called))

/-- The lanes but l are as they were. -/
def SameLanes (l : LaneId) (s t : State) : Prop := ∀ r, r ≠ l → t.lane r = s.lane r

/-- A trigger of R97 has been taken: nothing while UNSET; else a pass has started with its snapshot, or rerun-pending is
set. -/
def PassTriggered (s t : State) : Prop :=
  if s.clock.unset then t.charge = s.charge
  else
    match s.charge.pass with
    | none => t.charge = { s.charge with pass := some t.snapshot }
    | some _ => t.charge = { s.charge with rerun := true }

/-- The Charge Allotment Unit after an event that is a trigger of R97 exactly where b holds: without one, and while UNSET, as it
was; else rerun-pending is set where a pass is in flight, and a pass has started where none is, in a whole yard with the snapshot
of the part as the event leaves it. Limits, schedule and pass number stand. -/
def PassFollows (whole b : Prop) (s t : State) : Prop :=
  (¬ b ∨ s.clock.unset = true → t.charge = s.charge) ∧
  (b → s.clock.unset = false →
    (s.charge.pass ≠ none → t.charge = { s.charge with rerun := true }) ∧
    (s.charge.pass = none → t.charge = { s.charge with pass := t.charge.pass } ∧ t.charge.pass ≠ none ∧
      (whole → t.charge.pass = some t.snapshot)))

/-- A vehicle stands on the apron, on the unplaced list, in a queue or on a unit only as its state says, and in one queue
and on one unit at most (R3). -/
structure Settled (s : State) (f : Nat) (v : Vehicle) : Prop where
  apron : f ∈ s.apron → v.state = .apron
  unplaced : f ∈ s.unplaced.map Unplaced.fleet → v.state = .placing ∧ s.reservedLane? f = none
  queue : ∀ st, f ∈ s.queue st → v.state = .queued ∧ s.queueOf? f = some st
  unit : ∀ u, (s.unit u).vehicle = some f → v.state = .servicing ∧ s.unitOf? f = some u

/-! ### Several commands one after the other -/

/-- The commands in order, stopping at the first fault or refusal. -/
def runAll : List Instr → State → Host.Outcome State Fault Refusal
  | [], s => .next s
  | c :: rest, s =>
    match exec c s with
    | .next t => runAll rest t
    | .fault r => .fault r
    | .refused r => .refused r

/-! ### What holds of every state -/

/-- R161, R167, R162: at most 4 requests and 32 notices, and a reply is transmitted only for a request in the FIFO. -/
def PortOk (x : Port) : Prop := x.fifo.length ≤ 4 ∧ x.notices.length ≤ 32 ∧ (x.tx ≠ none → x.fifo ≠ [])

def PortsOk (s : State) : Prop := PortOk s.ports.dispatch ∧ PortOk s.ports.gate ∧ PortOk s.ports.service

/-- The images that the part can read: the one in the flash, and the copy of a save in flight. -/
def ConfigOp.copy? : ConfigOp → Option Image
  | .saving x => some x
  | .idle => none
  | .loading => none

def ImagesOk (ok : Image → Prop) (s : State) : Prop := (∀ x ∈ s.store.flash.content, ok x) ∧ (∀ x ∈ s.store.op.copy?, ok x)

/-- R150: the clock within its ranges, and while it is UNSET at 0, with no pass in flight and no call made (R97, R133). -/
def ClockOk (s : State) : Prop :=
  s.clock.minute < 1440 ∧ s.clock.day < 65536 ∧ s.clock.sEff < 1440 ∧ s.params.dayStart < 1440 ∧
  (s.clock.unset = true → s.clock.minute = 0 ∧ s.clock.day = 0 ∧ s.charge.pass = none ∧ s.window = []) ∧
  ImagesOk (fun x => x.params.dayStart < 1440) s

/-- Strictly ascending. -/
def Ascending (l : List Nat) : Prop := l.Pairwise (fun a b => a < b)

/-- R1, R18, R175: at most 192 vehicles, numbered 1..9999, no number twice, wash-day counters at most 15; R115: at most
256 duties, numbered 1..4095, no number twice. -/
def RegisterOk (s : State) : Prop :=
  s.fleet.length ≤ 192 ∧ Ascending (s.fleet.map Vehicle.number) ∧
  (∀ v ∈ s.fleet, 1 ≤ v.number ∧ v.number ≤ 9999 ∧ v.washDays ≤ 15) ∧
  s.duties.length ≤ 256 ∧ Ascending (s.duties.map Duty.number) ∧
  (∀ d ∈ s.duties, 1 ≤ d.number ∧ d.number ≤ 4095) ∧
  ImagesOk (fun x =>
    x.vehicles.length ≤ 192 ∧ Ascending (x.vehicles.map ImageVehicle.number) ∧
    (∀ v ∈ x.vehicles, 1 ≤ v.number ∧ v.number ≤ 9999 ∧ v.washDays ≤ 15)) s

/-- A number within a range. -/
def Within (lo hi n : Nat) : Prop := lo ≤ n ∧ n ≤ hi

/-- An attention threshold is one of the steps of R170. -/
def IsStep (n : Nat) : Prop := n % 4 = 0 ∧ Within 4 32 n

/-- The parameters are within the ranges of R173. -/
def ParamsOk (x : Params) : Prop :=
  x.dayStart ≤ 1439 ∧ x.readyBy ≤ 1439 ∧ x.margin ≤ 60 ∧ Within 30 480 x.horizon ∧ Within 2 30 x.callLead ∧
  Within 1 8 x.callWindow ∧ x.grace ≤ 30 ∧ Within 5 60 x.placeTimeout ∧ Within 1 30 x.staleLimit ∧ x.pMin ≤ 10 ∧
  x.fallback ≤ 50 ∧ Within 1 15 x.washInterval ∧ Within 5 95 x.refuelBelow ∧ Within 1 60 x.washPreset ∧
  Within 1 60 x.fuelPreset ∧ Within 1 12 x.washLongAt ∧ Within 1 8 x.fuelLongAt ∧ IsStep x.attnDispatch ∧
  IsStep x.attnGate ∧ IsStep x.attnService

/-- Limits within the ranges of R93. -/
def LimitsOk (l : Limits) : Prop := (∀ g : Fin 4, l.group[g] ≤ 2000) ∧ l.depot ≤ 4000

/-- A schedule as R95 gives it. -/
def ScheduleOk (l : List SchedEntry) : Prop :=
  l.length ≤ 8 ∧ Ascending (l.map SchedEntry.minute) ∧ ∀ e ∈ l, e.minute ≤ 1439 ∧ e.limit ≤ 4000

/-- A lane definition within the ranges of R24. -/
def LaneDefOk (d : LaneDef) : Prop := (d.capacity = 0 ∨ Within 4 48 d.capacity) ∧ Within 10 300 d.rating

/-- R24, R93, R95, R99, R173: the parameters, the configuration of the charge unit and the lane definitions within their
ranges. -/
def ConfigOk (s : State) : Prop :=
  ParamsOk s.params ∧ LimitsOk s.charge.pending ∧ LimitsOk s.charge.inForce ∧ ScheduleOk s.charge.schedule ∧
  (∀ x ∈ s.charge.pass, LimitsOk x.limits) ∧ s.charge.passNumber < 256 ∧ (∀ l, LaneDefOk (s.lane l).defn) ∧
  ImagesOk (fun x =>
    ParamsOk x.params ∧ LimitsOk x.limits ∧ ScheduleOk x.schedule ∧ ∀ l : LaneId, LaneDefOk x.lanes[l]) s

/-! ### The yard stays whole -/

/-- Whom the yard holds, collection after collection, and the unplaced list (R3, R60). -/
def State.placed (s : State) : List Nat :=
  allLanes.flatMap (fun l => (s.lane l).parked ++ (s.lane l).reserved) ++ s.queue .wash ++ s.queue .fuel ++
  allUnits.filterMap (fun u => (s.unit u).vehicle) ++ s.apron ++ s.unplaced.map Unplaced.fleet

/-- The collection that the state of a vehicle names holds it (R3, R60); a QUEUED vehicle's is that of the step at the head of
its route (R6), and a CALLED one stands at position 1 (R133). -/
def State.holds (s : State) (v : Vehicle) : Prop :=
  match v.state with
  | .absent => v.number ∉ s.placed
  | .apron => v.number ∈ s.apron
  | .queued => v.route ≠ [] ∧ s.queueOf? v.number = v.route.head?
  | .servicing => s.unitOf? v.number ≠ none
  | .placing => s.reservedLane? v.number ≠ none ∨ v.number ∈ s.unplaced.map Unplaced.fleet
  | .parked => s.parkedLane? v.number ≠ none
  | .called => ∃ l, (s.lane l).parked.head? = some v.number

/-- One unit record (R67, R77): its vehicle and its timer are present together, in OCCUPIED and EXIT_BLOCKED; the rest is
clear without a vehicle; a fault is pending only in EXIT_BLOCKED. -/
def UnitOk (x : StationUnit) : Prop :=
  (x.vehicle.isSome = true ↔ x.state = .occupied ∨ x.state = .exitBlocked) ∧ x.timer.isSome = x.vehicle.isSome ∧
  (∀ n ∈ x.timer, n ≤ 60) ∧ x.overruns ≤ 255 ∧
  (x.vehicle = none → x.overruns = 0 ∧ x.closing = false ∧ x.faultPending = false) ∧
  (x.faultPending = true → x.state = .exitBlocked)

/-- The step that the vehicle on a unit is being served at heads its route; an EXIT_BLOCKED one has none left (R6). -/
def State.turnOk (s : State) (u : UnitId) : Prop :=
  ∀ f ∈ (s.unit u).vehicle, ∀ v ∈ s.vehicle? f,
    ((s.unit u).state = .occupied → v.route.head? = some u.station) ∧ ((s.unit u).state = .exitBlocked → v.route = [])

/-- What holds of the queue of a station: its room and its levels (R69, R70), nobody waits at a shut station or beside a READY
unit (R68, R73), and the long flag compares its length with the threshold (R72). -/
def State.queueOk (s : State) (st : Station) : Prop :=
  (s.queue st).length ≤ st.queueRoom ∧
  (s.queue st ≠ [] →
    s.stationOpen st = true ∧ (s.unit st.first).state ≠ .ready ∧ (s.unit st.second).state ≠ .ready) ∧
  s.stations.long st = decide (s.params.longAt st < (s.queue st).length)

/-- What holds of one duty (R115, R118). -/
def State.dutyOk (s : State) (d : Duty) : Prop :=
  (d.binding.isSome = true ↔ d.state = .bound ∨ d.state = .called) ∧ (d.departed.isSome = true ↔ d.state = .released) ∧
  (∀ b ∈ d.binding, (s.vehicle? b.other).bind Vehicle.binding = some ⟨d.number, b.fixed⟩) ∧
  (d.state = .called → d.number ∈ s.window.map WindowEntry.duty)

/-- What holds of the call window (R133): at most as many calls as slots, one for each duty, each of a CALLED duty with its
vehicle at position 1 of the lane it was called in. -/
def State.windowOk (s : State) : Prop :=
  s.window.length ≤ s.params.callWindow ∧ (s.window.map WindowEntry.duty).Nodup ∧
  ∀ w ∈ s.window, (s.lane w.lane).parked.head? = some w.fleet ∧
    (s.duty? w.duty).map (fun d => (d.state, d.binding.map Binding.other)) = some (.called, some w.fleet)

/-- What holds of one vehicle of the yard (R3, R5, R6, R118, R133). -/
def State.vehicleOk (s : State) (v : Vehicle) : Prop :=
  s.holds v ∧ (v.placedAt.isSome = true ↔ v.state = .placing) ∧
  (v.route = [] ∨ v.route = [.wash] ∨ v.route = [.fuel] ∨ v.route = [.fuel, .wash]) ∧
  (v.state ≠ .queued → v.state ≠ .servicing → v.route = []) ∧
  (∀ b ∈ v.binding, (s.duty? b.other).bind Duty.binding = some ⟨v.number, b.fixed⟩) ∧
  (v.state = .called ↔ v.number ∈ s.window.map WindowEntry.fleet)

/-- What holds of the flags of one vehicle: blocked says that it stands in a parked list behind a vehicle whose key is greater,
and is clear elsewhere (R5, R30); plugged is for a BATTERY vehicle PARKED or CALLED in an equipped lane (R5, R16, R24), and
stale for a plugged one (R14). -/
def State.flagsOk (s : State) (v : Vehicle) : Prop :=
  (v.blocked = true ↔ ∃ l, v.number ∈ (s.lane l).parked ∧
    ∃ g ∈ (s.lane l).parked.takeWhile (fun g => g != v.number), s.keyOf v.number < s.keyOf g) ∧
  (v.plugged = true → v.kind = .battery ∧ s.equippedLane? v ≠ none) ∧ (v.stale = true → v.plugged = true)

/-- What the spec says of the yard, the roster and the call window in every state. -/
structure YardOk (s : State) : Prop where
  /-- R3, R27, R28, R59, R60, R67, R69, R70: no vehicle is in two places, nor twice in one -/
  once : s.placed.Nodup
  /-- R1: the yard holds registered vehicles -/
  known : ∀ f ∈ s.placed, s.vehicle? f ≠ none
  vehicles : ∀ v ∈ s.fleet, s.vehicleOk v
  flags : ∀ v ∈ s.fleet, s.flagsOk v
  /-- R29 -/
  lengths : ∀ l, s.occupied l + s.reservedLength l ≤ (s.lane l).defn.capacity
  /-- R59 -/
  apron : s.apron.length ≤ 8
  queues : s.queueOk .wash ∧ s.queueOk .fuel
  /-- R70: every HIGH entry precedes every NORMAL entry -/
  levels : s.stations.fuelQ.Pairwise (fun a b => b.high = true → a.high = true)
  units : ∀ u ∈ allUnits, UnitOk (s.unit u) ∧ s.turnOk u
  duties : ∀ d ∈ s.duties, s.dutyOk d
  window : s.windowOk
  /-- R177: while a load is in flight the yard is as the load found it -/
  loading : s.store.op = .loading → s.canLoad = true

/-! ### Grants -/

/-- The sum of the grants of the vehicles in the lanes of one feeder group (R93). -/
def State.groupGrant (s : State) (g : Fin 4) : Nat :=
  ((s.fleet.filter (fun v => (s.equippedLane? v).map (fun l => (s.lane l).defn.group) == some g)).map Vehicle.grant).sum

/-- What the spec says of the grants in every state. -/
structure GrantsOk (s : State) : Prop where
  /-- R17, R26, R92: of a vehicle that is not charge-eligible the grant is 0; it is never above the rating of the vehicle's
  lane, nor, of a stale vehicle, above the fallback -/
  each : ∀ v ∈ s.fleet, (s.eligible v = false → v.grant = 0) ∧ (v.stale = true → v.grant ≤ s.params.fallback) ∧
    ∀ l, s.parkedLane? v.number = some l → v.grant ≤ (s.lane l).defn.rating
  /-- R93: the grants sum to at most the depot limit in force -/
  depot : (s.fleet.map Vehicle.grant).sum ≤ s.charge.inForce.depot
  /-- R98, R102: a pass in flight holds each vehicle once, and every vehicle with a grant, in the lane where it still is -/
  snapshot : ∀ x ∈ s.charge.pass, (x.vehicles.map SnapVehicle.number).Nodup ∧
    ∀ v ∈ s.fleet, 0 < v.grant → ∃ y ∈ x.vehicles, y.number = v.number ∧ s.parkedLane? v.number = some y.lane

/-- The snapshot of a pass in flight still has the feeder group of each of its lanes. -/
def GroupsAsSnapped (s : State) : Prop :=
  ∀ x ∈ s.charge.pass, ∀ y ∈ x.vehicles, y.group = (s.lane y.lane).defn.group

/-- R93: the grants of each feeder group sum to at most its limit in force. -/
def GroupsOk (s : State) : Prop := ∀ g, s.groupGrant g ≤ s.charge.inForce.group[g]

/-! ### What a call scan finds (R136, R137) -/

/-- What the checks of R136 find of a BOUND duty and its vehicle, the room in the call window apart. -/
inductive Finding where
  | notParked
  | behind (l : LaneId) (position : Nat)
  | low (l : LaneId)
  | ready (l : LaneId) (short : Bool)
  deriving DecidableEq, Repr

/-- Checks 1 to 3 of R136. -/
def State.finding (s : State) (d : Duty) (v : Vehicle) : Finding :=
  match s.parkedLane? v.number with
  | none => .notParked
  | some l =>
    if v.state ≠ .parked then .notParked
    else if s.position l v.number ≠ 1 then .behind l (s.position l v.number)
    else if d.minLevel ≤ v.level then .ready l false
    else if s.params.shortAtDue = true ∧ s.dutyKey d ≤ s.now then .ready l true
    else .low l

/-- The record of a duty after a scan has examined it and there was room (R137, R138): a check passed clears its flag, a
check failed sets it, and a duty that passes all is called. -/
def Finding.record (x : Finding) (d : Duty) : Duty :=
  match x with
  | .notParked => { d with notReady := true }
  | .behind _ _ => { d with notReady := false, shuntNeeded := true }
  | .low _ => { d with notReady := false, shuntNeeded := false, lowEnergy := true }
  | .ready _ _ => { d with notReady := false, shuntNeeded := false, lowEnergy := false, state := .called }

/-- What the scan posts about a duty, and where (R137, R138): a readiness notice only where its flag was clear. -/
def State.scanNotice (s : State) (d : Duty) (v : Vehicle) : Option (List PortId × Notice) :=
  let n (k : NoticeKind) (l : Option LaneId) (x : Nat) : Notice :=
    ⟨k, s.clock.minute, some v.number, some d.number, l.map Place.lane, some x, none⟩
  match s.finding d v with
  | .notParked =>
    if d.notReady then none else some ([.dispatch], n .notReady (s.reservedLane? v.number) v.state.code)
  | .behind l position => if d.shuntNeeded then none else some ([.dispatch, .service], n .shuntNeeded (some l) position)
  | .low l => if d.lowEnergy then none else some ([.dispatch], n .lowEnergy (some l) v.level)
  | .ready l short => some ([.gate, .dispatch], n .call (some l) (flagCode short))

/-- Call order (R117): ascending key, then HIGH before NORMAL, then ascending duty number. -/
def State.CallsEarlier (s : State) (a b : Duty) : Prop :=
  s.dutyKey a < s.dutyKey b ∨ (s.dutyKey a = s.dutyKey b ∧
    ((a.high = true ∧ b.high = false) ∨ (a.high = b.high ∧ a.number < b.number)))

/-- What a queue of a port holds after these notices have been posted to it in turn (R167). -/
def Filled (p : PortId) (new : List Notice) (s t : State) : Prop :=
  (t.port p).notices = ((s.port p).notices ++ new).take 32

/-- A notice for which a property holds waits at a port, or the port's queue has overflowed (R167). -/
def Told (p : PortId) (is : Notice → Prop) (t : State) : Prop :=
  (∃ x ∈ (t.port p).notices, is x) ∨ (t.port p).overflowed = true

/-- The yard, the roster and the call window stand as x left them, and every notice that waited then is first in its queue. -/
def EndsAs (x t : State) : Prop :=
  t.lanes = x.lanes ∧ t.apron = x.apron ∧ t.unplaced = x.unplaced ∧ t.fleet = x.fleet ∧ t.duties = x.duties ∧
  t.window = x.window ∧ (∀ st, t.queue st = x.queue st) ∧ (∀ r, t.unit r = x.unit r) ∧
  ∀ p, (x.port p).notices <+: (t.port p).notices

/-- R61, R135: how an event ends once its other work has left the part as u: one scan where it has freed a slot of the call
window, and then the retry sweep where it has a cause of one. -/
def Closes (slot freed : Prop) (u t : State) : Prop :=
  ∃ x, (slot → x = u.scan) ∧ (¬ slot → x = u) ∧ (freed → EndsAs x.sweep t) ∧ (¬ freed → EndsAs x t)

/-- R61, R135: an event that has withdrawn the call of f and moved nobody ends with the scan of the freed slot and, where the lane
is a DEADEND lane, with the retry sweep. -/
def SlotFreed (f : Nat) (s t : State) : Prop :=
  ∃ w ∈ s.window, w.fleet = f ∧ ∃ u : State,
    u.lanes = s.lanes ∧ u.apron = s.apron ∧ u.unplaced = s.unplaced ∧ u.stations = s.stations ∧ u.clock = s.clock ∧
    u.params = s.params ∧ u.window = s.window.filter (fun x => x.fleet ≠ f) ∧
    (u.vehicle? f).map Vehicle.state = some .parked ∧ SameVehiclesButBlocked f s u ∧ SameDuties w.duty s u ∧
    Closes True ((s.lane w.lane).defn.kind = .deadend) u t

/-- R140, R141: the call of a vehicle has been withdrawn with the cause given, and nobody has moved in any lane: the vehicle is
PARKED where it stood, its entry of the call window is gone, its duty has none, and CALL_WITHDRAWN is told to Gate and
Dispatch; the slot has been freed. -/
def CallEnded (f cause : Nat) (s t : State) : Prop :=
  (t.vehicle? f).map Vehicle.state = some .parked ∧ f ∉ t.window.map WindowEntry.fleet ∧
  (∀ l, (t.lane l).parked = (s.lane l).parked) ∧
  (∃ w ∈ s.window, w.fleet = f ∧ w.duty ∉ t.window.map WindowEntry.duty ∧
    ∀ p, p = .gate ∨ p = .dispatch → Told p (fun x =>
      x = ⟨.callWithdrawn, s.clock.minute, some f, some w.duty, some (.lane w.lane), some cause, none⟩) t) ∧
  SlotFreed f s t

/-- R151, R154 to R158: both ways to a minute event answer a next state, and what is said of it holds of each: MINUTE_EVENT while
the clock is set, and an accepted SET_CLOCK of a class other than SAME. Said is the new minute, what a capture reads when it is
tested, how long it has then been held, and whether a rollover was delivered with the minute event. -/
def OnMinuteEvents (s : State) (P : Nat → (Nat → Nat) → (Nat → Nat) → Bool → State → Prop) : Prop :=
  (s.power = .running → s.clock.unset = false → s.clock.minute < 1440 →
    let m := (s.clock.minute + 1) % 1440
    ∃ t, exec .minuteEvent s = .next t ∧ P m id (fun c => (m + 1440 - c) % 1440) (m == s.clock.sEff) t) ∧
  ∀ h m1 d1, Clear h 0x10 s → h.len = 5 → m1 ≤ 1439 →
    ∃ t r, exec (.setClock h m1 d1) s = .next t ∧ t.answerOn h.port = some (.accept (.clock r)) ∧
      (r.cls = .forward → P m1 id (fun c => (s.clock.minute + 1440 - c) % 1440 + r.distance) r.rollover t) ∧
      (r.cls = .first ∨ r.cls = .backward → P m1 (fun _ => m1) (fun _ => 0) false t)

/-! ### Replies -/

/-- R160: every reply under way has a length within 3..200. -/
def RepliesOk (s : State) : Prop := ∀ p, ∀ r ∈ (s.port p).tx, Within 3 200 r.body.length

end Machine

end Sys2Proof
end

