-- ==== Sys2Proof/Certificates/Slice0/Obligations.lean ====
section
/-! DEFINITION. The statements for the provers. -/

open Sys2Proof Sys2Proof.Machine

/-! ### The queue of commands -/

/-- A step runs the command at the front of the queue on the part with the rest of the queue. What a step does with no command
waiting is the model's choice (log 1): a RESTART whose reply has been sent takes effect; else the head of the first inbound
FIFO whose port is not transmitting is taken, Dispatch before Gate before Service, as the request that its body spells (R163,
R172); else the part idles. -/
def Obligations.StepRunsFrontCommand : Prop :=
  (∀ (c : Instr) (rest : List Instr) (s : State), s.pending = c :: rest → step s = exec c { s with pending := rest }) ∧
  ∀ s : State, s.pending = [] →
    let head (p : PortId) : Option (List Byte) := if (s.port p).tx = none then (s.port p).fifo.head? else none
    let takes (p : PortId) : Prop := ∀ b, head p = some b → step s = exec (decodeRequest p s.pins.lock b) s
    (s.power = .held → step s = .next s) ∧
    (s.power = .running → s.restartPending = true → (s.port .dispatch).tx = none → step s = exec .restartTakesEffect s) ∧
    (s.power = .running → (s.restartPending = false ∨ (s.port .dispatch).tx ≠ none) →
      takes .dispatch ∧ (head .dispatch = none → takes .gate) ∧
      (head .dispatch = none → head .gate = none → takes .service) ∧
      ((∀ p, head p = none) → step s = .next s))

/-- R1, R3, R5, R6, R14, R16, R24, R27 to R30, R59, R60, R67 to R70, R72, R73, R115, R118, R133: whatever the step, the yard
stays whole. No vehicle is in two places or twice in one, and each is in the one that its state names, CALLED at position 1; a
placement minute is held in PLACING alone; a route has FUEL before WASH and is empty but in a queue or on a unit, where its
head is the step there. No lane is over its capacity, the apron and the queues keep their room, HIGH stands before NORMAL,
nobody waits at a shut station or beside a READY unit, a unit has a vehicle and a timer exactly in OCCUPIED and EXIT_BLOCKED,
and the long flags follow the thresholds. The two sides of every binding agree, and the window holds one entry for each CALLED
duty. A blocked flag says whether a vehicle nearer the exit has a greater key, and is clear outside the parked lists; only a
BATTERY vehicle in an equipped lane is plugged, and only a plugged one stale. The register and the configuration are taken as
RegisterStaysInOrder and ConfigurationStaysInRange keep them. -/
def Obligations.YardStaysWhole : Prop :=
  ∀ s t : State, RegisterOk s → ConfigOk s → YardOk s → step s = .next t → YardOk t

/-- Every command answers a next state from every state, and leaves the queue of the commands behind it as it was. -/
def Obligations.EveryCommandCompletes : Prop :=
  ∀ (c : Instr) (s : State), ∃ t, exec c s = .next t ∧ t.pending = s.pending

/-! ### Requests and replies -/

/-- R163, R164, R174, R176: the first test that fails of steps 1 to 4 of R164 decides the refusal, and the refused request
changes nothing else. What the model adds to the rules: the lengths of step 1 follow the layouts of log 13 (PRESUMED where R172
gives none), a request of no known kind or form is refused BAD_FORM with its code echoed (log 28, DEDUCED), and the request
takes its place in the FIFO as it is taken (log 3, DEDUCED). Step 5 is in the statements of the requests. -/
def Obligations.RequestsRefusedInOrder : Prop :=
  (∀ (h : Hdr) (code : Nat) (s : State), Taken h s →
    exec (.unknownKindRequest h code) s = .next (s.answered h code (.refuse .badForm))) ∧
  ∀ (c : Instr) (h : Hdr) (k : ReqKind) (s : State), c.hdr? = some h → c.kind? = some k → Taken h s →
    ((h.len ≠ c.bodyLength ∨ c.countOk = false) → exec c s = .next (s.answered h k.code (.refuse .badForm))) ∧
    (h.len = c.bodyLength → c.countOk = true →
      (mayUse k.code h.port = false → exec c s = .next (s.answered h k.code (.refuse .notPermitted))) ∧
      (mayUse k.code h.port = true →
        (h.lock = true → k.code ∈ lockedCodes → exec c s = .next (s.answered h k.code (.refuse .locked))) ∧
        ((h.lock = true → k.code ∉ lockedCodes) → s.store.op.admits k.code = false →
          exec c s = .next (s.answered h k.code (.refuse .busy)))))

/-- R161, R165: what a reply holds, and all that it changes: the status byte shows the queue and the flags as they stand, and
the overrun flag is cleared. Once a reply has been transmitted its request leaves the FIFO. What the model adds: taking a
request ends the port's earlier reply and drops that reply's request, and a request that finds the FIFO empty takes its place
there (log 3, DEDUCED); a REPLY_TRANSMITTED with no reply under way changes nothing (log 23, DESIGN CHOICE). -/
def Obligations.ReplyReportsThePort : Prop :=
  (∀ (p : PortId) (s : State), s.power = .running →
    ((s.port p).tx ≠ none →
      exec (.replyTransmitted p) s = .next (s.modPort p (fun x => { x with tx := none, fifo := x.fifo.tail }))) ∧
    ((s.port p).tx = none → exec (.replyTransmitted p) s = .next s)) ∧
  ∀ (h : Hdr) (code : Nat) (a : Answer) (s : State),
    let t := s.answered h code a
    let x := s.port h.port
    let waiting := if x.tx = none then x.fifo else x.fifo.tail
    (t.port h.port).tx = some ⟨code,
      ⟨x.notices.length / 4, decide (x.notices = []), x.overflowed, x.overrun, s.attention h.port⟩, a⟩ ∧
    (t.port h.port).overrun = false ∧ (t.port h.port).rx = x.rx ∧ (t.port h.port).notices = x.notices ∧
    (t.port h.port).overflowed = x.overflowed ∧
    (t.port h.port).fifo = (if waiting = [] then [[byteOf code]] else waiting) ∧
    SamePorts h.port s t ∧ t = { s with pins := { s.pins with lock := h.lock }, ports := t.ports }

/-- R21, R45, R87, R111, R112, R131, R133, R180: the eight reads answer with the part as it stands and change nothing but the
port's reply. READ_STATUS gives LOCK as the request's own sample, and AUTOLD and BAUD as sampled at the start-up, where R180
says levels (log 24, DEDUCED). READ_VEHICLE gives the fields of R21's list, without the pass state that R99 names (log 40,
DEDUCED). -/
def Obligations.ReadsAnswer : Prop :=
  ∀ (h : Hdr) (s : State),
    (Clear h 0x01 s → h.len = 1 →
      exec (.readStatus h) s = .next (s.answered h 0x01 (.accept (.status
        ⟨s.store.cause, s.store.imageInvalid, s.store.op, h.lock, s.pins.autold, s.pins.baud, s.clock.unset,
          s.clock.minute, s.clock.day, s.clock.sEff, s.params, s.fleet.length, s.duties.length⟩)))) ∧
    (Clear h 0x03 s → h.len = 3 → ∀ f,
      exec (.readVehicle h f) s = .next (s.answered h 0x03
        (match s.vehicle? f with
        | none => .refuse .unknown
        | some v => .accept (.vehicle ⟨v, s.location v, s.vehicleKey v⟩)))) ∧
    (Clear h 0x04 s → h.len = 2 → ∀ n,
      exec (.readLane h n) s = .next (s.answered h 0x04
        (match laneOf? n with
        | none => .refuse .unknown
        | some l => .accept (.lane
            ⟨(s.lane l).defn, s.occupied l, s.reservedLength l, s.freeLength l,
              (s.lane l).parked.filterMap (fun f => (s.vehicle? f).map (fun v => ⟨f, v.state, s.vehicleKey v, v.blocked⟩)),
              (s.lane l).reserved.map (fun f => (f, s.lengthOf f))⟩)))) ∧
    (Clear h 0x05 s → h.len = 4 → ∀ n,
      exec (.readDutyOne h n) s = .next (s.answered h 0x05
        (match s.duty? n with
        | none => .refuse .unknown
        | some d => .accept (.duty
            { record := d, key := s.dutyKey d
              vehicle := (d.binding.bind (fun b => s.vehicle? b.other)).map (fun v =>
                let inLane := if v.state = .parked ∨ v.state = .called then s.parkedLane? v.number else none
                ⟨v.state, if v.state = .placing then s.reservedLane? v.number else inLane,
                  inLane.map (fun l => (s.lane l).parked.idxOf v.number + 1), v.level⟩)
              window := if d.state = .called then
                  (s.window.find? (fun w => w.duty == n)).map (fun w =>
                    (s.window.findIdx (fun w => w.duty == n) + 1, w.short))
                else none })))) ∧
    (Clear h 0x05 s → h.len = 4 → ∀ n,
      let rest := s.duties.filter (fun d => decide (n ≤ d.number))
      exec (.readDutyList h n) s = .next (s.answered h 0x05
        (if 4095 < n then .refuse .range else .accept (.dutyList
          { used := s.duties.length
            counts := [DutyState.openState, .bound, .called, .released, .lapsed].map
              (fun st => (s.duties.filter (fun d => d.state == st)).length)
            entries := (rest.take 8).map (fun d =>
              ⟨d.number, d.day, d.state, s.dutyKey d, d.binding.map Binding.other⟩)
            more := decide (8 < rest.length) })))) ∧
    (Clear h 0x06 s → h.len = 5 → ∀ scope n,
      let listed := s.fleet.filter (fun v => v.plugged && decide (n ≤ v.number) &&
        (s.equippedLane? v).any (fun l => scope == 0 || laneNumber l == scope))
      exec (.readGrantsGrants h scope n) s = .next (s.answered h 0x06
        (if 24 < scope then .refuse .unknown else if 9999 < n then .refuse .range
         else .accept (.grants
          { passNumber := s.charge.passNumber, inFlight := s.charge.pass.isSome
            entries := (listed.take 8).map (fun v => ⟨v.number, v.grant, v.stale⟩)
            more := decide (8 < listed.length) })))) ∧
    (Clear h 0x06 s → h.len = 2 →
      exec (.readGrantsLimits h) s = .next (s.answered h 0x06 (.accept (.limits
        ⟨s.charge.pending, s.charge.inForce, s.charge.schedule, s.charge.pass.isSome, s.charge.rerun,
          s.charge.passNumber⟩)))) ∧
    (Clear h 0x07 s → h.len = 2 →
      exec (.readStation h 0x38) s = .next (s.answered h 0x07 (.accept (.station
        ⟨s.stations.w1, s.stations.w2, s.stations.w1.isOpen || s.stations.w2.isOpen,
          s.stations.washQ.map (fun f => (f, none)), s.stations.washQ.length, s.params.washLongAt, s.stations.washLong,
          s.params.washPreset⟩))) ∧
      exec (.readStation h 0x39) s = .next (s.answered h 0x07 (.accept (.station
        ⟨s.stations.f1, s.stations.f2, s.stations.f1.isOpen || s.stations.f2.isOpen,
          s.stations.fuelQ.map (fun e => (e.fleet, some e.high)), s.stations.fuelQ.length, s.params.fuelLongAt,
          s.stations.fuelLong, s.params.fuelPreset⟩))) ∧
      ∀ n, n ≠ 0x38 → n ≠ 0x39 → exec (.readStation h n) s = .next (s.answered h 0x07 (.refuse .unknown)))

/-- R168: TAKE_NOTICE removes and returns the oldest notice, with the status as it stood before the removal; on an empty
queue it answers with the EMPTY flag and the overflowed flag as it stood, and then clears that flag. Nothing else of the
part changes but the port's reply. -/
def Obligations.NoticeTaken : Prop :=
  ∀ (h : Hdr) (s : State), Taken h s → h.len = 1 →
    ∃ t, exec (.takeNotice h) s = .next t ∧
      t = { s with pins := { s.pins with lock := h.lock }, ports := t.ports } ∧ SamePorts h.port s t ∧
      (∀ n rest, (s.port h.port).notices = n :: rest →
        (t.port h.port).notices = rest ∧ (t.port h.port).overflowed = (s.port h.port).overflowed ∧
        (t.port h.port).tx = some ⟨0x02, s.status h.port, .accept (.notice n)⟩) ∧
      ((s.port h.port).notices = [] →
        (t.port h.port).notices = [] ∧ (t.port h.port).overflowed = false ∧
        (t.port h.port).tx = some ⟨0x02, s.status h.port, .accept .none⟩ ∧ (s.status h.port).empty = true)

/-! ### Lines -/

/-- R159: the receiver's table, the framing error and the gap; the FIFO, the transmitter and the notices stay, and so does
everything else of the part. -/
def Obligations.ReceiverStates : Prop :=
  ∀ (p : PortId) (c : Byte) (s : State), s.power = .running →
    (exec (.characterGapTimeout p) s = .next (s.modPort p (fun x => { x with rx := .hunt }))) ∧
    (exec (.characterReceived p c true) s = .next (s.modPort p (fun x => { x with rx := .hunt }))) ∧
    ((s.port p).rx = .hunt → c = 0xC3 →
      exec (.characterReceived p c false) s = .next (s.modPort p (fun x => { x with rx := .length }))) ∧
    ((s.port p).rx = .hunt → c ≠ 0xC3 → exec (.characterReceived p c false) s = .next s) ∧
    ((s.port p).rx = .length → Within 1 60 c.toNat →
      exec (.characterReceived p c false) s = .next (s.modPort p (fun x => { x with rx := .body c.toNat [] }))) ∧
    ((s.port p).rx = .length → ¬ Within 1 60 c.toNat →
      exec (.characterReceived p c false) s = .next (s.modPort p (fun x => { x with rx := .hunt }))) ∧
    (∀ n got, (s.port p).rx = .body n got → got.length + 1 < n →
      exec (.characterReceived p c false) s = .next (s.modPort p (fun x => { x with rx := .body n (got ++ [c]) }))) ∧
    (∀ n got, (s.port p).rx = .body n got → n = got.length + 1 →
      exec (.characterReceived p c false) s = .next (s.modPort p (fun x => { x with rx := .check (got ++ [c]) none }))) ∧
    (∀ body, (s.port p).rx = .check body none →
      exec (.characterReceived p c false) s = .next (s.modPort p (fun x => { x with rx := .check body (some c) }))) ∧
    (∀ body hi, (s.port p).rx = .check body (some hi) →
      exec (.characterReceived p c false) s = exec (.telegramReceived p body (hi ++ c)) s)

/-- R160, R161: a telegram whose check matches joins the FIFO where it holds fewer than 4, and is lost with the overrun
flag set where it holds 4; one whose check differs changes nothing but the receiver's state. -/
def Obligations.TelegramTested : Prop :=
  ∀ (p : PortId) (body : List Byte) (check : Check) (s : State), s.power = .running → Within 1 60 body.length →
    (check = telegramCheck body → (s.port p).fifo.length < 4 →
      exec (.telegramReceived p body check) s =
        .next (s.modPort p (fun x => { x with rx := .hunt, fifo := x.fifo ++ [body] }))) ∧
    (check = telegramCheck body → 4 ≤ (s.port p).fifo.length →
      exec (.telegramReceived p body check) s = .next (s.modPort p (fun x => { x with rx := .hunt, overrun := true }))) ∧
    (check ≠ telegramCheck body →
      exec (.telegramReceived p body check) s = .next (s.modPort p (fun x => { x with rx := .hunt })))

/-- R159 to R161: the characters of a framed telegram, received one by one by a receiver in HUNT, do what the telegram received
whole does. That TELEGRAM_RECEIVED and CHARACTER_RECEIVED are two views of one line, of which a run uses one, is log 4
(DEDUCED). -/
def Obligations.CharactersMakeTheTelegram : Prop :=
  ∀ (p : PortId) (body : List Byte) (s : State), s.power = .running → (s.port p).rx = .hunt → Within 1 60 body.length →
    runAll ((frame body).map (fun c => .characterReceived p c false)) s =
      exec (.telegramReceived p body (telegramCheck body)) s

/-- R160: a telegram with one body byte damaged fails its check, whichever byte and however damaged; it gets no place in
the FIFO and sets no flag. -/
def Obligations.DamagedByteDiscarded : Prop :=
  ∀ (p : PortId) (before after : List Byte) (b c : Byte) (s : State), s.power = .running → b ≠ c →
    Within 1 60 (before ++ b :: after).length →
    exec (.telegramReceived p (before ++ c :: after) (telegramCheck (before ++ b :: after))) s =
      .next (s.modPort p (fun x => { x with rx := .hunt }))

/-- R167: a notice joins the end of the queue of each of its ports, and a full queue discards it and sets the overflowed
flag; the other ports and the rest of the part are as they were. -/
def Obligations.NoticePosted : Prop :=
  ∀ (ports : List PortId) (n : Notice) (s : State) (p : PortId), ports.Nodup →
    (p ∉ ports → (s.post ports n).port p = s.port p) ∧
    (p ∈ ports → (s.port p).notices.length < 32 →
      (s.post ports n).port p = { s.port p with notices := (s.port p).notices ++ [n] }) ∧
    (p ∈ ports → 32 ≤ (s.port p).notices.length → (s.post ports n).port p = { s.port p with overflowed := true }) ∧
    s.post ports n = { s with ports := (s.post ports n).ports }

/-- R169: the attention line is asserted while the level is above the threshold or an urgent notice waits; an urgent notice
that finds room asserts it at once, and at a threshold of 32 only urgent notices do. R170: a requested threshold is taken to
the nearest of 4, 8, ..., 32, a midway value to the higher. -/
def Obligations.AttentionLine : Prop :=
  (∀ n : Nat, IsStep (attentionStep n) ∧ (IsStep n → attentionStep n = n) ∧
    (n ≤ 4 → attentionStep n = 4) ∧ (32 ≤ n → attentionStep n = 32) ∧
    ∀ u, IsStep u → 4 ≤ n → n ≤ 32 →
      max n (attentionStep n) - min n (attentionStep n) ≤ max n u - min n u ∧
      (max n (attentionStep n) - min n (attentionStep n) = max n u - min n u → u ≤ attentionStep n)) ∧
  ∀ (s : State) (p : PortId),
    (s.attention p = true ↔
      s.params.attention p < (s.port p).notices.length ∨
      ∃ n ∈ (s.port p).notices, n.kind ∈ ([.call, .callWithdrawn, .shuntNeeded, .lapsed, .mapConflict, .yardFull,
        .turnOverrun] : List NoticeKind)) ∧
    (s.status p).attention = s.attention p ∧
    (∀ n, n.kind.urgent = true → (s.port p).notices.length < 32 → (s.post [p] n).attention p = true) ∧
    (s.params.attention p = 32 → (s.port p).notices.length ≤ 32 → s.attention p = true →
      ∃ n ∈ (s.port p).notices, n.kind.urgent = true)

/-! ### Clock -/

/-- R151, R153: a minute boundary advances the minute and the day, a written S takes effect, and nothing of the
configuration, the straps, the lanes' definitions or the lines changes; at the minute of S in effect DAY_ROLLOVER joins every
queue that is not overflowed (R152), the CURRENT duties are removed and the NEXT ones become CURRENT (R148); while UNSET no
boundary falls (R150). -/
def Obligations.MinuteBoundary : Prop :=
  ∀ s : State, s.power = .running →
    (s.clock.unset = true → exec .minuteEvent s = .next s) ∧
    (s.clock.unset = false → s.clock.minute < 1440 → s.clock.day < 65536 →
      ∃ t, exec .minuteEvent s = .next t ∧
        t.clock.minute = (s.clock.minute + 1) % 1440 ∧
        t.clock.day = (if s.clock.minute = 1439 then (s.clock.day + 1) % 65536 else s.clock.day) ∧
        t.clock.unset = false ∧ t.clock.sEff = s.params.dayStart ∧ t.clock.phase = 0 ∧
        t.power = s.power ∧ t.pins = s.pins ∧ t.store = s.store ∧ t.params = s.params ∧
        (∀ l, (t.lane l).defn = (s.lane l).defn) ∧
        (∀ p, (t.port p).rx = (s.port p).rx ∧ (t.port p).fifo = (s.port p).fifo ∧ (t.port p).tx = (s.port p).tx ∧
          (t.port p).overrun = (s.port p).overrun) ∧
        t.duties.map (fun d => (d.number, d.day, d.due)) =
          (if (s.clock.minute + 1) % 1440 = s.clock.sEff then
            (s.duties.filter (fun d => d.day == .next)).map (fun d => (d.number, DayTag.current, d.due))
          else s.duties.map (fun d => (d.number, d.day, d.due))) ∧
        ((s.clock.minute + 1) % 1440 = s.clock.sEff →
          ∀ p, ⟨.dayRollover, s.clock.sEff, none, none, none, some t.clock.day, none⟩ ∈ (t.port p).notices ∨
            (t.port p).overflowed = true))

/-- R154 to R157: SET_CLOCK sets the clock, clears UNSET, and answers with the class, the distance, the rollover and both
times; S in effect takes the parameter's value at the minute event, which every class but SAME delivers. A FIRST or BACKWARD
setting stamps every capture anew with the new minute; a FORWARD one leaves the report minutes, and the placement minutes but
for those taken at the new minute; SAME leaves all. -/
def Obligations.ClockSet : Prop :=
  ∀ (h : Hdr) (m1 d1 : Nat) (s : State), Clear h 0x10 s → h.len = 5 → d1 < 65536 → s.clock.day < 65536 →
    (1439 < m1 → exec (.setClock h m1 d1) s = .next (s.answered h 0x10 (.refuse .range))) ∧
    (m1 ≤ 1439 →
      ∃ t r, exec (.setClock h m1 d1) s = .next t ∧ t.answerOn h.port = some (.accept (.clock r)) ∧
        t.clock.minute = m1 ∧ t.clock.day = d1 ∧ t.clock.unset = false ∧ t.clock.phase = 0 ∧
        r.oldMinute = s.clock.minute ∧ r.oldDay = s.clock.day ∧ r.newMinute = m1 ∧ r.newDay = d1 ∧
        (s.clock.unset = true → r.cls = .first ∧ r.distance = 0 ∧ r.rollover = false) ∧
        (s.clock.unset = false →
          let days := (d1 + 65536 - s.clock.day) % 65536
          (days = 0 ∧ m1 = s.clock.minute → r.cls = .same ∧ r.distance = 0 ∧ r.rollover = false ∧
            t.fleet = s.fleet ∧ t.duties = s.duties ∧ t.charge = s.charge ∧ t.lanes = s.lanes ∧
            t.clock.sEff = s.clock.sEff) ∧
          ((days = 0 ∧ s.clock.minute < m1) ∨ Within 1 32767 days →
            r.cls = .forward ∧ r.distance = 1440 * days + m1 - s.clock.minute ∧
            (r.rollover = true ↔ minutesFrom s.clock.sEff m1 < r.distance)) ∧
          ((days = 0 ∧ m1 < s.clock.minute) ∨ 32767 < days →
            r.cls = .backward ∧ r.rollover = false ∧
            r.distance = 1440 * ((s.clock.day + 65536 - d1) % 65536) + s.clock.minute - m1)) ∧
        (∀ f v, s.vehicle? f = some v → ∃ w, t.vehicle? f = some w ∧
          ((r.cls = .first ∨ r.cls = .backward) →
            w.lastReport = v.lastReport.map (fun _ => m1) ∧ ∀ c ∈ w.placedAt, c = m1) ∧
          (r.cls = .forward →
            w.lastReport = v.lastReport ∧ (w.placedAt = v.placedAt ∨ w.placedAt = none ∨ w.placedAt = some m1))) ∧
        (r.cls ≠ .same → t.clock.sEff = s.params.dayStart) ∧ t.params = s.params ∧ t.store = s.store)

/-- R18: at a rollover event the wash-day counter of every vehicle that ran today rises by 1, up to 15, and ran today is
cleared, whatever the vehicle's state, and once for a jump however long; a minute event or a jump without a rollover changes
neither; and no counter exceeds 15. -/
def Obligations.WashDaysAtRollover : Prop :=
  ∀ (s : State) (f : Nat) (v : Vehicle), s.power = .running → s.vehicle? f = some v →
    (s.clock.unset = false → s.clock.minute < 1440 →
      ∃ t w, exec .minuteEvent s = .next t ∧ t.vehicle? f = some w ∧
        ((s.clock.minute + 1) % 1440 = s.clock.sEff → w.ranToday = false ∧
          w.washDays = (if v.ranToday then min (v.washDays + 1) 15 else v.washDays)) ∧
        ((s.clock.minute + 1) % 1440 ≠ s.clock.sEff → w.ranToday = v.ranToday ∧ w.washDays = v.washDays) ∧
        (v.washDays ≤ 15 → w.washDays ≤ 15)) ∧
    (∀ h m1 d1, Clear h 0x10 s → h.len = 5 → m1 ≤ 1439 → d1 < 65536 →
      ∃ t w r, exec (.setClock h m1 d1) s = .next t ∧ t.vehicle? f = some w ∧
        t.answerOn h.port = some (.accept (.clock r)) ∧
        (r.rollover = true → w.ranToday = false ∧
          w.washDays = (if v.ranToday then min (v.washDays + 1) 15 else v.washDays)) ∧
        (r.rollover = false → w.ranToday = v.ranToday ∧ w.washDays = v.washDays) ∧
        (v.washDays ≤ 15 → w.washDays ≤ 15))

/-! ### Configuration -/

/-- R72, R92, R134, R170, R173: SET_PARAM stores the value brought into the range of its parameter and answers with the number
and the stored value, and nothing else of the part changes, but for what four parameters bring at once: a raised call window
runs a scan, a lowered fallback lowers the grants of stale vehicles that are above it, and a queue threshold is compared with
the queue, its long flag following with its notice. What it refuses (R134, R166, R173): a number outside the table UNKNOWN, a
bad on/off byte BAD_FORM, a minute above 1439 RANGE, and a call window below the calls made STATE_CONFLICT. That a window
written with its present value starts no scan is log 29 (DEDUCED), and that the status byte of the reply is formed after the
scan's notices is log 31 (DEDUCED). -/
def Obligations.ParameterWritten : Prop :=
  ∀ (h : Hdr) (n v : Nat) (s : State), Clear h 0x11 s → h.len = 4 →
    (∀ (form : ParamForm) (x : Nat), paramForm? n = some form → form.store v = .ok x → (n = 6 → s.window.length ≤ x) →
      let t := s.setParams (s.params.put n x)
      let a : Answer := if x = v then .accept (.param n x) else .adjusted (.param n x)
      t.params.values = s.params.values.set (n - 1) x ∧
      (n ≠ 6 → n ≠ 12 → n ≠ 18 → n ≠ 19 → exec (.setParam h n v) s = .next (t.answered h 0x11 a)) ∧
      (n = 6 → x ≤ s.params.callWindow → exec (.setParam h n v) s = .next (t.answered h 0x11 a)) ∧
      (n = 6 → s.params.callWindow < x →
        exec (.setParam h n v) s = .next ((t.takeRequest h 0x11).scan.respond h 0x11 a)) ∧
      (n = 12 → s.params.fallback ≤ x → exec (.setParam h n v) s = .next (t.answered h 0x11 a)) ∧
      (n = 12 → x < s.params.fallback →
        exec (.setParam h n v) s = .next ((t.setFleet (s.fleet.map (fun w =>
          if w.stale = true ∧ x < w.grant then { w with grant := if x < s.params.pMin then 0 else x }
          else w))).answered h 0x11 a)) ∧
      (∀ st : Station, (n = 18 ∧ st = .wash) ∨ (n = 19 ∧ st = .fuel) →
        let q := (s.queue st).length
        (s.stations.long st = decide (x < q) → exec (.setParam h n v) s = .next (t.answered h 0x11 a)) ∧
        (s.stations.long st ≠ decide (x < q) →
          exec (.setParam h n v) s = .next (((t.setStations (s.stations.setLong st (decide (x < q)))).post [.service]
            ⟨if x < q then .queueLong else .queueNormal, s.clock.minute, none, none, some (.station st), some q,
              none⟩).answered h 0x11 a)))) ∧
    (n = 0 ∨ 22 < n → exec (.setParam h n v) s = .next (s.answered h 0x11 (.refuse .unknown))) ∧
    (n = 8 ∨ n = 13 → 1 < v → exec (.setParam h n v) s = .next (s.answered h 0x11 (.refuse .badForm))) ∧
    (n = 1 ∨ n = 2 → 1439 < v → exec (.setParam h n v) s = .next (s.answered h 0x11 (.refuse .range))) ∧
    (n = 6 → max 1 (min 8 v) < s.window.length →
      exec (.setParam h n v) s = .next (s.answered h 0x11 (.refuse .stateConflict)))

/-- R94, R97: SET_LIMITS writes the five pending limits, brought into range, triggers a pass, and changes nothing else. R95:
the three forms of SET_SCHEDULE: what entry each minute has afterwards, what is refused, and that the list stays in ascending
order within 8 entries; no limit changes and no pass starts (that RANGE comes before FULL and UNKNOWN is log 37, DESIGN CHOICE).
R96: a minute event at an entry's minute makes its limit the pending depot limit, a jump takes the last entry reached in its
span, and without such an entry the limit stands; the group limits stand in every case. -/
def Obligations.LimitsAndScheduleWritten : Prop :=
  (∀ (h : Hdr) (l1 l2 l3 l4 depot : Nat) (s : State), Clear h 0x12 s → h.len = 11 →
    let lim : Limits := ⟨#v[min l1 2000, min l2 2000, min l3 2000, min l4 2000], min depot 4000⟩
    let s1 := s.setCharge { s.charge with pending := lim }
    ∃ t, exec (.setLimits h l1 l2 l3 l4 depot) s = .next t ∧ t.charge.pending = lim ∧ PassTriggered s1 t ∧
      t.answerOn h.port = some
        (if l1 ≤ 2000 ∧ l2 ≤ 2000 ∧ l3 ≤ 2000 ∧ l4 ≤ 2000 ∧ depot ≤ 4000 then .accept (.pendingLimits lim)
         else .adjusted (.pendingLimits lim)) ∧
      t = { s with charge := t.charge, pins := { s.pins with lock := h.lock }, ports := t.ports } ∧ SamePorts h.port s t) ∧
  (∀ (h : Hdr) (m v : Nat) (s : State), Clear h 0x13 s → ScheduleOk s.charge.schedule →
    let old := s.charge.schedule
    (h.len = 6 → 1439 < m → exec (.setSchedulePut h m v) s = .next (s.answered h 0x13 (.refuse .range))) ∧
    (h.len = 6 → m ≤ 1439 → (∀ e ∈ old, e.minute ≠ m) → old.length = 8 →
      exec (.setSchedulePut h m v) s = .next (s.answered h 0x13 (.refuse .full))) ∧
    (h.len = 6 → m ≤ 1439 → ((∃ e ∈ old, e.minute = m) ∨ old.length < 8) →
      ∃ l, exec (.setSchedulePut h m v) s = .next ((s.setSchedule l).answered h 0x13
          (if v ≤ 4000 then .accept (.schedule l) else .adjusted (.schedule l))) ∧
        ScheduleOk l ∧ ∀ e, e ∈ l ↔ e = ⟨m, min v 4000⟩ ∨ (e ∈ old ∧ e.minute ≠ m)) ∧
    (h.len = 4 → 1439 < m → exec (.setScheduleRemove h m) s = .next (s.answered h 0x13 (.refuse .range))) ∧
    (h.len = 4 → m ≤ 1439 → (∀ e ∈ old, e.minute ≠ m) →
      exec (.setScheduleRemove h m) s = .next (s.answered h 0x13 (.refuse .unknown))) ∧
    (h.len = 4 → m ≤ 1439 → (∃ e ∈ old, e.minute = m) →
      ∃ l, exec (.setScheduleRemove h m) s = .next ((s.setSchedule l).answered h 0x13 (.accept (.schedule l))) ∧
        ScheduleOk l ∧ ∀ e, e ∈ l ↔ e ∈ old ∧ e.minute ≠ m) ∧
    (h.len = 2 → exec (.setScheduleClear h) s = .next ((s.setSchedule []).answered h 0x13 (.accept (.schedule []))))) ∧
  ∀ s : State, ScheduleOk s.charge.schedule → s.clock.minute < 1440 →
    let reaches (m span : Nat) (t : State) : Prop :=
      let back (e : SchedEntry) : Nat := (m + 1440 - e.minute) % 1440
      t.charge.schedule = s.charge.schedule ∧ t.charge.pending.group = s.charge.pending.group ∧
      (∀ e ∈ s.charge.schedule, back e < span → (∀ y ∈ s.charge.schedule, back e ≤ back y) →
        t.charge.pending.depot = e.limit) ∧
      ((∀ e ∈ s.charge.schedule, span ≤ back e) → t.charge.pending.depot = s.charge.pending.depot)
    (s.power = .running → s.clock.unset = false →
      ∃ t, exec .minuteEvent s = .next t ∧ reaches ((s.clock.minute + 1) % 1440) 1 t) ∧
    ∀ h m1 d1, Clear h 0x10 s → h.len = 5 → m1 ≤ 1439 →
      ∃ t r, exec (.setClock h m1 d1) s = .next t ∧ t.answerOn h.port = some (.accept (.clock r)) ∧
        reaches m1 (if r.cls = .forward then r.distance else if r.cls = .same then 0 else 1) t

/-- R25, R164: a bad yes/no byte of DEFINE_LANE is refused BAD_FORM, then a bad kind BAD_FORM and a lane number outside 1..24
UNKNOWN (which of these two comes first is free, log 11). DEFINE_LANE on an empty lane stores every field, brought into range;
on a lane with content it may change only the rating and the open flag, and is refused STATE_CONFLICT otherwise (that a bad
kind is found before that is log 11, DESIGN CHOICE). The other definitions and every parked list stay. R26: a lowered rating
lowers the grants above it in the lane; a changed one triggers a pass; where space has freed, a retry sweep follows, which
starts, with nobody unplaced, at the head of the apron (where that vehicle holds no reservation); where none has, nobody is
moved. -/
def Obligations.LaneDefined : Prop :=
  (∀ (h : Hdr) (d : LaneFields) (s : State), Clear h 0x14 s → h.len = 11 →
    let flags := d.equipped ≤ 1 ∧ d.lowClearance ≤ 1 ∧ d.shortTurn ≤ 1 ∧ d.isOpen ≤ 1
    let refused (c : RefuseCode) : Prop := exec (.defineLane h d) s = .next (s.answered h 0x14 (.refuse c))
    (¬ flags → refused .badForm) ∧
    (flags → ¬ Within 1 2 d.kind → Within 1 24 d.lane → refused .badForm) ∧
    (flags → Within 1 2 d.kind → ¬ Within 1 24 d.lane → refused .unknown) ∧
    (flags → ¬ Within 1 2 d.kind → ¬ Within 1 24 d.lane → refused .badForm ∨ refused .unknown) ∧
    (flags → Within 1 2 d.kind → Within 1 24 d.lane → ∃ l x, laneOf? d.lane = some l ∧ parseLane d = some x)) ∧
  ∀ (h : Hdr) (d : LaneFields) (l : LaneId) (x : LaneDef) (s : State), Clear h 0x14 s → h.len = 11 →
    laneOf? d.lane = some l → parseLane d = some x →
    let old := (s.lane l).defn
    let s1 := s.modLane l (fun y => { y with defn := x })
    let freed := x.capacity ≠ 0 ∧ x.isOpen = true ∧ (old.capacity = 0 ∨ old.isOpen = false ∨ old.capacity < x.capacity)
    x.capacity = (if d.capacity = 0 then 0 else max 4 (min 48 d.capacity)) ∧ x.rating = max 10 (min 300 d.rating) ∧
    groupNumber x.group = max 1 (min 4 d.group) ∧ x.kind.code = d.kind ∧ flagCode x.equipped = d.equipped ∧
    flagCode x.lowClearance = d.lowClearance ∧ flagCode x.shortTurn = d.shortTurn ∧ flagCode x.isOpen = d.isOpen ∧
    ((((s.lane l).parked = [] ∧ (s.lane l).reserved = []) ∨ x = { old with rating := x.rating, isOpen := x.isOpen }) →
      ∃ t, exec (.defineLane h d) s = .next t ∧ (t.lane l).defn = x ∧
        t.answerOn h.port = some
          (if x.capacity = d.capacity ∧ x.rating = d.rating ∧ groupNumber x.group = d.group then .accept (.laneDefined x)
           else .adjusted (.laneDefined x)) ∧
        (∀ r, r ≠ l → (t.lane r).defn = (s.lane r).defn) ∧ (∀ r, (t.lane r).parked = (s.lane r).parked) ∧
        t.clock = s.clock ∧ t.params = s.params ∧ t.duties = s.duties ∧ t.window = s.window ∧
        (∀ f v, s.vehicle? f = some v → ∃ w, t.vehicle? f = some w ∧ w.level = v.level ∧ w.plugged = v.plugged ∧
          w.grant = (if f ∈ (s.lane l).parked ∧ x.rating < old.rating then min v.grant x.rating else v.grant)) ∧
        (x.rating = old.rating ∨ s.clock.unset = true → t.charge = s.charge) ∧
        (x.rating ≠ old.rating → s.clock.unset = false →
          t.charge = (if s.charge.pass = none then { s.charge with pass := some s1.snapshot }
            else { s.charge with rerun := true })) ∧
        (¬ freed → t = { s1 with
          fleet := t.fleet, charge := t.charge, pins := { s.pins with lock := h.lock }, ports := t.ports } ∧
          SamePorts h.port s t ∧ t.fleet.map Vehicle.state = s.fleet.map Vehicle.state) ∧
        (freed → s.unplaced = [] → ∀ f rest v r n, s.apron = f :: rest → f ∉ rest → s.vehicle? f = some v →
          Settled s f v → s.reservedLane? f = none → s1.laneChoice v = some (r, n) →
          f ∈ (t.lane r).reserved ∧ f ∉ t.apron ∧ (t.vehicle? f).map Vehicle.state = some .placing ∧
          Told .gate (fun y => y.kind = .route ∧ y.fleet = some f ∧ y.place = some (.lane r)) t)) ∧
    (¬ ((s.lane l).parked = [] ∧ (s.lane l).reserved = []) → x ≠ { old with rating := x.rating, isOpen := x.isOpen } →
      exec (.defineLane h d) s = .next (s.answered h 0x14 (.refuse .stateConflict)))

/-- R7, R8: REGISTER_VEHICLE of a number that no record holds makes a new record, in its order, with the values of R7; of an
ABSENT record it changes the identity and keeps the rest, its binding too, and is refused MISMATCH where the bound duty
requires another class or kind; no other record changes. R9: RETIRE_VEHICLE frees the record of an ABSENT vehicle with no
bound duty, and is refused otherwise. What REGISTER_VEHICLE refuses before (R7, R164): a bad class or kind byte BAD_FORM, a
fleet number outside 1..9999 RANGE; which of the two comes first is free, and that a bad byte comes before FULL,
STATE_CONFLICT and MISMATCH is log 11 too (DESIGN CHOICE). The order of the records is log 26 (DESIGN CHOICE). -/
def Obligations.VehicleRegistered : Prop :=
  (∀ (h : Hdr) (f : Nat) (s : State), Clear h 0x16 s → h.len = 3 →
    (s.vehicle? f = none → exec (.retireVehicle h f) s = .next (s.answered h 0x16 (.refuse .unknown))) ∧
    (∀ v, s.vehicle? f = some v → (v.state ≠ .absent ∨ v.binding ≠ none) →
      exec (.retireVehicle h f) s = .next (s.answered h 0x16 (.refuse .stateConflict))) ∧
    (∀ v, s.vehicle? f = some v → v.state = .absent → v.binding = none →
      ∃ l, exec (.retireVehicle h f) s = .next ((s.setFleet l).answered h 0x16 (.accept .none)) ∧
        (s.setFleet l).vehicle? f = none ∧ SameVehicles f s (s.setFleet l) ∧ l.Sublist s.fleet)) ∧
  (∀ (h : Hdr) (f c k capacity target : Nat) (s : State), Clear h 0x15 s → h.len = 9 →
    let codes := Within 1 4 c ∧ Within 1 2 k
    let refused (x : RefuseCode) : Prop :=
      exec (.registerVehicle h f c k capacity target) s = .next (s.answered h 0x15 (.refuse x))
    (¬ codes → Within 1 9999 f → refused .badForm) ∧ (codes → ¬ Within 1 9999 f → refused .range) ∧
    (¬ codes → ¬ Within 1 9999 f → refused .badForm ∨ refused .range)) ∧
  ∀ (h : Hdr) (f capacity target : Nat) (c : VClass) (k : Kind) (s : State), Clear h 0x15 s → h.len = 9 →
    Within 1 9999 f →
    let cap := if k = .battery then max 100 (min 10000 capacity) else 100
    let tgt := if k = .battery then max 1 (min cap target) else 100
    let answer (isNew : Bool) : Answer :=
      if cap = capacity ∧ tgt = target then .accept (.registered cap tgt isNew) else .adjusted (.registered cap tgt isNew)
    (s.vehicle? f = none → 192 ≤ s.fleet.length →
      exec (.registerVehicle h f c.code k.code capacity target) s = .next (s.answered h 0x15 (.refuse .full))) ∧
    (s.vehicle? f = none → s.fleet.length < 192 →
      ∃ l, exec (.registerVehicle h f c.code k.code capacity target) s =
          .next ((s.setFleet l).answered h 0x15 (answer true)) ∧
        l.length = s.fleet.length + 1 ∧ (s.setFleet l).vehicle? f = some (Vehicle.fresh f c k cap tgt 0) ∧
        SameVehicles f s (s.setFleet l) ∧
        (Ascending (s.fleet.map Vehicle.number) → Ascending (l.map Vehicle.number))) ∧
    (∀ v, s.vehicle? f = some v → v.state ≠ .absent →
      exec (.registerVehicle h f c.code k.code capacity target) s = .next (s.answered h 0x15 (.refuse .stateConflict))) ∧
    (∀ v, s.vehicle? f = some v → v.state = .absent →
      (v.binding = none ∨ ∃ b e, v.binding = some b ∧ s.duty? b.other = some e ∧
        (e.cls = none ∨ e.cls = some c) ∧ (e.kind = none ∨ e.kind = some k)) →
      ∃ l, exec (.registerVehicle h f c.code k.code capacity target) s =
          .next ((s.setFleet l).answered h 0x15 (answer false)) ∧
        (s.setFleet l).vehicle? f = some { v with
          cls := c, kind := k, capacity := cap, target := tgt
          level := if v.kind = k then min v.level cap else 0, lastReport := if v.kind = k then v.lastReport else none } ∧
        SameVehicles f s (s.setFleet l) ∧ l.map Vehicle.number = s.fleet.map Vehicle.number) ∧
    (∀ v b e, s.vehicle? f = some v → v.state = .absent → v.binding = some b → s.duty? b.other = some e →
      ((∃ c', e.cls = some c' ∧ c' ≠ c) ∨ (∃ k', e.kind = some k' ∧ k' ≠ k)) →
      exec (.registerVehicle h f c.code k.code capacity target) s = .next (s.answered h 0x15 (.refuse .mismatch)))

/-- R10, R11: SET_HOLD on sets the held flag and leaves the vehicle without a binding and its duty OPEN; on a vehicle already
held it changes nothing. A CALLED vehicle's call is withdrawn with cause HOLD (R141): it is PARKED where it stood, and the
scan of the freed slot follows, and in a DEADEND lane the retry sweep (R61, R135). A binding removed from an eligible vehicle
is a trigger of a pass, and nothing else is (R97, R119). SET_HOLD off clears the flag alone. What is refused (R10, R164): an
unregistered number UNKNOWN; that an on/off byte that is neither is refused BAD_FORM, and before that, is log 42 (DESIGN
CHOICE). -/
def Obligations.HoldSetAndCleared : Prop :=
  (∀ (h : Hdr) (f : Nat) (s : State), Clear h 0x17 s → h.len = 4 →
    (∀ on, 1 < on → exec (.setHoldOn h f on) s = .next (s.answered h 0x17 (.refuse .badForm))) ∧
    (s.vehicle? f = none →
      exec (.setHoldOn h f 1) s = .next (s.answered h 0x17 (.refuse .unknown)) ∧
      exec (.setHoldOff h f) s = .next (s.answered h 0x17 (.refuse .unknown)))) ∧
  ∀ (h : Hdr) (f : Nat) (v : Vehicle) (s : State), Clear h 0x17 s → h.len = 4 → s.vehicle? f = some v →
    (∃ t, exec (.setHoldOff h f) s = .next t ∧ t.vehicle? f = some { v with held := false } ∧ SameVehicles f s t ∧
      t.answerOn h.port = some (.accept .none) ∧ SamePorts h.port s t ∧
      t = { s with fleet := t.fleet, pins := { s.pins with lock := h.lock }, ports := t.ports }) ∧
    (v.held = true → exec (.setHoldOn h f 1) s = .next (s.answered h 0x17 (.accept .none))) ∧
    (v.held = false →
      ∃ t w, exec (.setHoldOn h f 1) s = .next t ∧ t.vehicle? f = some w ∧ w.held = true ∧ w.binding = none ∧
        t.answerOn h.port = some (.accept .none) ∧ SameControl s t ∧ SameLines h.port s t ∧
        PassFollows (RegisterOk s ∧ YardOk s) (v.binding ≠ none ∧ s.eligible v = true) s t ∧
        (∀ b d, v.binding = some b → s.duty? b.other = some d →
          ∃ d', t.duty? b.other = some d' ∧ d'.state = .openState ∧ d'.binding = none)) ∧
    (v.held = false → v.binding = none → v.state ≠ .called →
      ∃ t, exec (.setHoldOn h f 1) s = .next t ∧ t.vehicle? f = some { v with held := true } ∧ SameVehicles f s t ∧
        t = { s with fleet := t.fleet, pins := { s.pins with lock := h.lock }, ports := t.ports }) ∧
    (v.held = false → v.state = .called → RegisterOk s → YardOk s →
      ∃ t blocked, exec (.setHoldOn h f 1) s = .next t ∧
        t.vehicle? f = some { v with state := .parked, held := true, binding := none, blocked := blocked } ∧
        CallEnded f 3 s t ∧ ∀ b ∈ v.binding, SameDutiesButCalls b.other s t)

/-! ### Roster -/

/-- R120: LOAD_DUTY of a number that no record holds makes an OPEN record with the fields requested, the release level
brought into its range; no other record and no vehicle changes. R121: over an OPEN record it stores the fields (whether the
reply says that its binding, which it has not, was kept or removed is free, log 12); over a BOUND one too, and the binding is
kept where the vehicle matches the new class, kind and wash requirement, and removed otherwise, a key that moved being handed
over; a CALLED, RELEASED or LAPSED record is refused. A bad day tag, class, kind, priority or wash byte is refused
BAD_FORM before anything else. That the roster is held in ascending duty number, where the
new record finds its place, is log 26 (DESIGN CHOICE). -/
def Obligations.DutyLoaded : Prop :=
  (∀ (h : Hdr) (d : DutyFields) (s : State), Clear h 0x18 s → h.len = 12 →
    let form := Within 1 2 d.day ∧ Within 1 5 d.cls ∧ Within 1 3 d.kind ∧ Within 1 2 d.priority ∧ d.wash ≤ 1
    (¬ form → exec (.loadDuty h d) s = .next (s.answered h 0x18 (.refuse .badForm))) ∧
    (form → ∃ x, parseDuty d = some x)) ∧
  ∀ (h : Hdr) (d : DutyFields) (x : Duty) (s : State), Clear h 0x18 s → h.len = 12 → parseDuty d = some x →
    let n := d.number
    let answer (y : Duty) (o : LoadOutcome) : Answer :=
      if x.minLevel = d.minLevel then .accept (.dutyLoaded y (s.dutyKey y) o)
      else .adjusted (.dutyLoaded y (s.dutyKey y) o)
    x.number = n ∧ x.due = d.due ∧ x.day.code = d.day ∧ classRequiredCode x.cls = d.cls ∧
    kindRequiredCode x.kind = d.kind ∧ flagCode x.wash = d.wash ∧ (if x.high then 1 else 2) = d.priority ∧
    x.minLevel = min d.minLevel (if x.kind = some .fuel then 100 else 10000) ∧
    x.state = .openState ∧ x.binding = none ∧ x.departed = none ∧ x.uncovered = false ∧ x.notReady = false ∧
    x.shuntNeeded = false ∧ x.lowEnergy = false ∧
    (n = 0 ∨ 4095 < n ∨ 1439 < d.due → exec (.loadDuty h d) s = .next (s.answered h 0x18 (.refuse .range))) ∧
    (Within 1 4095 n → d.due ≤ 1439 →
      (s.duty? n = none → 256 ≤ s.duties.length → exec (.loadDuty h d) s = .next (s.answered h 0x18 (.refuse .full))) ∧
      (s.duty? n = none → s.duties.length < 256 →
        ∃ l, exec (.loadDuty h d) s = .next ((s.setDuties l).answered h 0x18 (answer x .new)) ∧
          l.length = s.duties.length + 1 ∧ (s.setDuties l).duty? n = some x ∧ SameDuties n s (s.setDuties l) ∧
          (Ascending (s.duties.map Duty.number) → Ascending (l.map Duty.number))) ∧
      (∀ e, s.duty? n = some e → (e.state = .called ∨ e.state = .released ∨ e.state = .lapsed) →
        exec (.loadDuty h d) s = .next (s.answered h 0x18 (.refuse .stateConflict))) ∧
      (∀ e, s.duty? n = some e → e.state = .openState →
        ∃ l o, exec (.loadDuty h d) s = .next ((s.setDuties l).answered h 0x18 (answer x o)) ∧ o ≠ .new ∧
          (s.setDuties l).duty? n = some x ∧ SameDuties n s (s.setDuties l) ∧
          l.map Duty.number = s.duties.map Duty.number) ∧
      ∀ e b v, s.duty? n = some e → e.state = .bound → e.binding = some b → s.vehicle? b.other = some v →
        let keeps := (x.cls = none ∨ x.cls = some v.cls) ∧ (x.kind = none ∨ x.kind = some v.kind) ∧
          (x.wash = true → v.washOwed = false)
        let moved := ¬ (keeps ∧ e.day = x.day ∧ e.due = x.due)
        ∃ t blocked, exec (.loadDuty h d) s = .next t ∧ SameDuties n s t ∧ SameVehiclesButBlocked b.other s t ∧
          (keeps → t.duty? n = some { x with state := .bound, binding := some b } ∧
            t.vehicle? b.other = some { v with blocked := blocked } ∧
            t.answerOn h.port = some (answer { x with state := .bound, binding := some b } .kept)) ∧
          (¬ keeps → t.duty? n = some x ∧ t.vehicle? b.other = some { v with blocked := blocked, binding := none } ∧
            t.answerOn h.port = some (answer x .removed)) ∧
          (¬ moved → t.fleet = s.fleet ∧ SamePorts h.port s t) ∧
          (moved → s.eligible v = true → PassTriggered s t) ∧
          (¬ moved ∨ s.eligible v = false → t.charge = s.charge) ∧
          t = { s with duties := t.duties, fleet := t.fleet, charge := t.charge, ports := t.ports,
                       pins := { s.pins with lock := h.lock } })

/-- R122: CANCEL_DUTY frees the record and leaves its vehicle unbound; a number without a record is UNKNOWN, and a RELEASED
record is kept. The cancelling of a duty that is not CALLED changes no other duty, and of the vehicles no other field but the
blocked flags. The call of a CALLED one is withdrawn with cause CANCEL (R141): its vehicle is PARKED where it stood, and the
scan of the freed slot may do to the other duties what a scan does, and nothing more. A pass is triggered where the vehicle
was eligible, and not otherwise (R97, R119). -/
def Obligations.DutyCancelled : Prop :=
  (∀ (h : Hdr) (n : Nat) (s : State), Clear h 0x19 s → h.len = 3 → s.duty? n = none →
    exec (.cancelDuty h n) s = .next (s.answered h 0x19 (.refuse .unknown))) ∧
  ∀ (h : Hdr) (n : Nat) (d : Duty) (s : State), Clear h 0x19 s → h.len = 3 → s.duty? n = some d →
    (d.state = .released → exec (.cancelDuty h n) s = .next (s.answered h 0x19 (.refuse .stateConflict))) ∧
    (d.state ≠ .released →
      ∃ t, exec (.cancelDuty h n) s = .next t ∧ t.duty? n = none ∧
        t.answerOn h.port = some (.accept (.dutyCancelled d.state (d.binding.map Binding.other))) ∧
        SameControl s t ∧ SameLines h.port s t ∧ t.apron.length ≤ max 8 s.apron.length ∧
        (∀ m, m ≠ n → ((t.duty? m).map Duty.due) = ((s.duty? m).map Duty.due)) ∧
        (∀ b v, d.binding = some b → s.vehicle? b.other = some v → ∃ w, t.vehicle? b.other = some w ∧ w.binding = none) ∧
        (d.state ≠ .called ∨ (RegisterOk s ∧ YardOk s) → PassFollows (RegisterOk s ∧ YardOk s)
          (∃ b v, d.binding = some b ∧ s.vehicle? b.other = some v ∧ s.eligible v = true) s t) ∧
        (d.state ≠ .called →
          SameDuties n s t ∧ t.window = s.window ∧ t.lanes = s.lanes ∧ t.apron = s.apron ∧ t.unplaced = s.unplaced ∧
          t.stations = s.stations ∧
          ∀ g w, s.vehicle? g = some w → ∃ blocked, t.vehicle? g = some { w with
            blocked := blocked, binding := if d.binding.map Binding.other = some g then none else w.binding }) ∧
        (d.state = .called → RegisterOk s → YardOk s →
          SameDutiesButCalls n s t ∧
          ∀ b v, d.binding = some b → s.vehicle? b.other = some v → CallEnded b.other 5 s t ∧
            ∃ blocked, t.vehicle? b.other = some { v with state := .parked, binding := none, blocked := blocked }))

/-- R123: BIND_DUTY is refused UNKNOWN where no record holds the duty number or the fleet number; STATE_CONFLICT for a CALLED,
RELEASED or LAPSED duty, and for a vehicle that is held or bound to another duty; and then MISMATCH where the vehicle is not
of the class or kind required, or owes a wash that the duty requires done. A refusal changes nothing. R124: an accepted
BIND_DUTY makes both sides of the binding, fixed, and clears UNCOVERED; a vehicle that the duty was bound to is unbound. No
other duty changes, and no other field of any vehicle but the blocked flags. A pass is triggered where a key moved of a
vehicle that is eligible, the old vehicle's or the new one's, and not otherwise (R97, R119, R124). -/
def Obligations.DutyBound : Prop :=
  ∀ (h : Hdr) (n f : Nat) (s : State), Clear h 0x1A s → h.len = 5 →
    (s.duty? n = none ∨ s.vehicle? f = none → exec (.bindDuty h n f) s = .next (s.answered h 0x1A (.refuse .unknown))) ∧
    ∀ (d : Duty) (v : Vehicle), s.duty? n = some d → s.vehicle? f = some v →
      let free := (d.state = .openState ∨ d.state = .bound) ∧ v.held = false ∧
        (v.binding = none ∨ ∃ fixed, v.binding = some ⟨n, fixed⟩)
      let matching := (d.cls = none ∨ d.cls = some v.cls) ∧ (d.kind = none ∨ d.kind = some v.kind) ∧
        (d.wash = true → v.washOwed = false)
      (d.state = .called ∨ d.state = .released ∨ d.state = .lapsed ∨ v.held = true ∨
          (∃ b, v.binding = some b ∧ b.other ≠ n) →
        exec (.bindDuty h n f) s = .next (s.answered h 0x1A (.refuse .stateConflict))) ∧
      (free → ¬ matching → exec (.bindDuty h n f) s = .next (s.answered h 0x1A (.refuse .mismatch))) ∧
      (free → matching →
        ∃ t b, exec (.bindDuty h n f) s = .next t ∧
          t.duty? n = some { d with state := .bound, binding := some ⟨f, true⟩, uncovered := false } ∧
          t.vehicle? f = some { v with binding := some ⟨n, true⟩, blocked := b } ∧ SameDuties n s t ∧
          t.answerOn h.port = some (.accept (.dutyBound
            ⟨.bound, s.dutyKey d, f, (d.binding.map Binding.other).filter (fun g => g != f), v.state, v.level⟩)) ∧
          (∀ g w, g ≠ f → s.vehicle? g = some w →
            ∃ b, t.vehicle? g = some { w with
              blocked := b, binding := if d.binding.map Binding.other = some g then none else w.binding }) ∧
          SameControl s t ∧ SameLines h.port s t ∧ t.lanes = s.lanes ∧ t.apron = s.apron ∧ t.unplaced = s.unplaced ∧
          t.stations = s.stations ∧ t.window = s.window ∧
          PassFollows (RegisterOk s ∧ YardOk s) (d.binding.map Binding.other ≠ some f ∧ (s.eligible v = true ∨
            ∃ b w, d.binding = some b ∧ s.vehicle? b.other = some w ∧ s.eligible w = true)) s t)

/-- R125: UNBIND_DUTY leaves a BOUND or CALLED duty OPEN and its vehicle unbound; of an OPEN duty it changes nothing; a
RELEASED or LAPSED one is refused, and a number without a record is UNKNOWN. The call of a CALLED duty is withdrawn with cause
UNBIND (R141): its vehicle is PARKED where it stood, and the other duties change only as a scan changes them. A pass is
triggered where the vehicle was eligible, and not otherwise (R97, R119). -/
def Obligations.DutyUnbound : Prop :=
  (∀ (h : Hdr) (n : Nat) (s : State), Clear h 0x1B s → h.len = 3 → s.duty? n = none →
    exec (.unbindDuty h n) s = .next (s.answered h 0x1B (.refuse .unknown))) ∧
  ∀ (h : Hdr) (n : Nat) (d : Duty) (s : State), Clear h 0x1B s → h.len = 3 → s.duty? n = some d →
    (d.state = .released ∨ d.state = .lapsed →
      exec (.unbindDuty h n) s = .next (s.answered h 0x1B (.refuse .stateConflict))) ∧
    (d.state = .openState → d.binding = none →
      exec (.unbindDuty h n) s = .next (s.answered h 0x1B (.accept (.dutyUnbound none)))) ∧
    (∀ b, (d.state = .bound ∨ d.state = .called) → d.binding = some b →
      ∃ t d', exec (.unbindDuty h n) s = .next t ∧ t.duty? n = some d' ∧ d'.state = .openState ∧ d'.binding = none ∧
        d'.due = d.due ∧ d'.day = d.day ∧ t.answerOn h.port = some (.accept (.dutyUnbound (some b.other))) ∧
        SameControl s t ∧ SameLines h.port s t ∧
        (∀ v, s.vehicle? b.other = some v → ∃ w, t.vehicle? b.other = some w ∧ w.binding = none) ∧
        (d.state = .bound ∨ (RegisterOk s ∧ YardOk s) → PassFollows (RegisterOk s ∧ YardOk s)
          (∃ v, s.vehicle? b.other = some v ∧ s.eligible v = true) s t) ∧
        (d.state = .bound → SameDuties n s t ∧ t.window = s.window ∧ t.lanes = s.lanes) ∧
        (d.state = .called → RegisterOk s → YardOk s →
          d' = { d with state := .openState, binding := none } ∧ SameDutiesButCalls n s t ∧
          ∀ v, s.vehicle? b.other = some v → CallEnded b.other 4 s t ∧
            ∃ blocked, t.vehicle? b.other = some { v with state := .parked, binding := none, blocked := blocked }))

/-! ### Configuration store and resets -/

/-- R175 to R177, R179: SAVE_CONFIG copies the content and erases the valid mark, so that the flash holds no valid image from
then on; LOAD_CONFIG is accepted on an empty yard and refused otherwise; RESTART is answered and waits for its reply. -/
def Obligations.ConfigurationRequests : Prop :=
  ∀ (h : Hdr) (s : State), h.len = 1 →
    (Clear h 0x1C s →
      exec (.saveConfig h) s = .next ((s.setStore { s.store with
        op := .saving ⟨s.params, s.charge.pending, s.charge.schedule, s.lanes.map Lane.defn, s.fleet.map Vehicle.image⟩
        flash := { s.store.flash with mark := false } }).answered h 0x1C (.accept .none))) ∧
    (Clear h 0x1D s →
      ((∀ l, (s.lane l).parked = [] ∧ (s.lane l).reserved = []) ∧ (∀ u, (s.unit u).state = .closed) ∧
          (∀ v ∈ s.fleet, v.state = .absent) →
        exec (.loadConfig h) s =
          .next ((s.setStore { s.store with op := .loading }).answered h 0x1D (.accept .none))) ∧
      (¬ ((∀ l, (s.lane l).parked = [] ∧ (s.lane l).reserved = []) ∧ (∀ u, (s.unit u).state = .closed) ∧
          (∀ v ∈ s.fleet, v.state = .absent)) →
        exec (.loadConfig h) s = .next (s.answered h 0x1D (.refuse .stateConflict)))) ∧
    (Clear h 0x1E s →
      exec (.restart h) s = .next ((s.setRestartPending true).answered h 0x1E (.accept .none)))

/-- R22, R175 to R177: how a save and a load end, with CONFIG_DONE. A save that succeeds leaves a whole image with its check and
the valid mark; one that fails leaves no mark (what content it leaves is then of no effect, log 6). A load that finds no image
with its mark and a matching check leaves the rest of the part as it was; one that does takes it, and every bound duty becomes
OPEN. That a completion with nothing in flight changes nothing is log 23 (DESIGN CHOICE). -/
def Obligations.SaveAndLoadEnd : Prop :=
  ∀ s : State, s.power = .running →
    let told (ok : Bool) (op : Nat) (t : State) :=
      t.post [.dispatch] ⟨.configDone, t.clock.minute, none, none, none, some (if ok then 0 else 1), some op⟩
    (s.store.op = .idle → ∀ b, exec (.configSaveCompletion b) s = .next s ∧ exec (.configLoadCompletion b) s = .next s) ∧
    (∀ x, s.store.op = .saving x →
      (∀ b, exec (.configLoadCompletion b) s = .next s) ∧
      exec (.configSaveCompletion true) s =
        .next (told true 1 (s.setStore { s.store with
          op := .idle, imageInvalid := false, flash := ⟨some x, true, true⟩ })) ∧
      exec (.configSaveCompletion false) s =
        .next (told false 1 (s.setStore { s.store with
          op := .idle, imageInvalid := true, flash := { s.store.flash with mark := false } }))) ∧
    (s.store.op = .loading → (∀ b, exec (.configSaveCompletion b) s = .next s) ∧
      ∀ answers, (answers = false ∨ s.store.flash.mark = false ∨ s.store.flash.checkOk = false ∨
          s.store.flash.content = none) →
        exec (.configLoadCompletion answers) s =
          .next (told false 2 (s.setStore { s.store with op := .idle, imageInvalid := true }))) ∧
    (∀ x, s.store.op = .loading → s.store.flash = ⟨some x, true, true⟩ →
      ∃ t, exec (.configLoadCompletion true) s = .next t ∧ t.params = x.params ∧ t.charge.pending = x.limits ∧
        t.charge.inForce = x.limits ∧ t.charge.schedule = x.schedule ∧ t.charge.rerun = false ∧
        (s.clock.unset = true → t.charge.pass = none) ∧ (s.clock.unset = false → t.charge.pass = some t.snapshot) ∧
        t.charge.passNumber = s.charge.passNumber ∧
        (∀ l, t.lane l = ⟨x.lanes[l], [], []⟩) ∧ t.fleet = x.vehicles.map ImageVehicle.restore ∧
        t.duties = s.duties.map (fun d =>
          if d.binding = none then d else { d with state := .openState, binding := none }) ∧
        t.clock = s.clock ∧ t.store = { s.store with op := .idle, imageInvalid := false } ∧
        SamePorts .dispatch s t ∧ t.apron = s.apron ∧ t.unplaced = s.unplaced ∧ t.stations = s.stations ∧
        t.window = s.window ∧
        ((s.port .dispatch).notices.length < 32 → (t.port .dispatch).notices = (s.port .dispatch).notices ++
          [⟨.configDone, s.clock.minute, none, none, none, some 0, some 2⟩]))

/-- R175 to R178: what a save holds comes back at a power-up with auto-load: parameters, limits, schedule, lane definitions,
and of each vehicle the identity and the wash-day counter, with every dynamic field as in a new record. -/
def Obligations.SavedImageComesBack : Prop :=
  ∀ (h : Hdr) (lock baud : Bool) (s : State), Clear h 0x1C s → h.len = 1 →
    ∃ t, runAll [.saveConfig h, .configSaveCompletion true, .powerUp ⟨lock, true, baud⟩ true] s = .next t ∧
      t.params = s.params ∧ t.charge.pending = s.charge.pending ∧ t.charge.inForce = s.charge.pending ∧
      t.charge.schedule = s.charge.schedule ∧ (∀ l, t.lane l = ⟨(s.lane l).defn, [], []⟩) ∧
      t.fleet.map Vehicle.image = s.fleet.map Vehicle.image ∧
      (∀ v ∈ t.fleet, v = Vehicle.fresh v.number v.cls v.kind v.capacity v.target v.washDays) ∧
      t.store.imageInvalid = false ∧ t.store.cause = .power ∧ t.clock = ⟨0, 0, true, s.params.dayStart, 0⟩

/-- R178, R179, and R22, R46, R66, R88, R113, R132, R149, R150, R171: after power-up, and after the release of the reset line,
the part is as after reset, whatever it was before, but for the straps, the flash and the cause; with the auto-load strap
active and a valid image (mark and matching check, R175) it has the image's configuration. At the assertion of the line it is
emptied. What the model chooses of the time the line is held (log 23, DESIGN CHOICE): the configuration is that of the
defaults, the cause is written at the release, no command but a reset has an effect, a power-up ends the hold, and a release
while running has none. -/
def Obligations.ColdResets : Prop :=
  (∀ (c : Instr) (s : State), s.power = .held →
    (∀ straps answers, c ≠ .powerUp straps answers ∧ c ≠ .resetLineRelease straps answers) →
    c ≠ .resetLineAssertion → exec c s = .next s) ∧
  ∀ (straps : Straps) (answers : Bool) (s : State),
    let x := s.store.flash
    let invalid := !(answers && x.mark && x.checkOk && x.content.isSome)
    let cold (cause : ResetCause) : State := { State.reset with
      pins := straps, store := ⟨cause, invalid, .idle, x⟩, freeCount := s.freeCount, pending := s.pending }
    let loaded (x : Image) (t : State) : State := { t with
      params := x.params, lanes := x.lanes.map (fun d => ⟨d, [], []⟩), fleet := x.vehicles.map ImageVehicle.restore
      charge := ⟨x.limits, x.limits, x.schedule, none, false, 0⟩, clock := ⟨0, 0, true, x.params.dayStart, 0⟩ }
    ((straps.autold = false ∨ invalid = true) → exec (.powerUp straps answers) s = .next (cold .power)) ∧
    (∀ y, straps.autold = true → answers = true → x = ⟨some y, true, true⟩ →
      exec (.powerUp straps answers) s = .next (loaded y (cold .power))) ∧
    (s.power = .held → (straps.autold = false ∨ invalid = true) →
      exec (.resetLineRelease straps answers) s = .next (cold .line)) ∧
    (∀ y, s.power = .held → straps.autold = true → answers = true → x = ⟨some y, true, true⟩ →
      exec (.resetLineRelease straps answers) s = .next (loaded y (cold .line))) ∧
    (s.power = .running → exec (.resetLineRelease straps answers) s = .next s) ∧
    exec .resetLineAssertion s = .next { State.reset with
      power := .held, pins := s.pins, store := { s.store with op := .idle }, freeCount := s.freeCount
      pending := s.pending }

/-- R179, and R23, R46, R66, R88, R114, R132, R149, R171: what RESTART empties and what it keeps, and that a Dispatch request
that stands behind an answered RESTART is discarded without a reply: the reset takes effect in its place (that the reply to the
RESTART has been sent by then is log 3, DEDUCED). That RESTART_TAKES_EFFECT without an answered RESTART changes nothing, and
that given while the reply to the RESTART still stands it takes that reply as sent, is log 10 (DEDUCED). -/
def Obligations.RestartClearsTheYard : Prop :=
  ∀ s : State, s.power = .running →
    (s.restartPending = false → exec .restartTakesEffect s = .next s) ∧
    (s.restartPending = true →
      (∀ c h, c.hdr? = some h → h.port = .dispatch → exec c s = exec .restartTakesEffect s) ∧
      ∃ t, exec .restartTakesEffect s = .next t ∧
        t.restartPending = false ∧ t.apron = [] ∧ t.unplaced = [] ∧ t.stations = Stations.reset ∧ t.duties = [] ∧
        t.window = [] ∧ t.ports = Ports.reset ∧ (∀ l, t.lane l = ⟨(s.lane l).defn, [], []⟩) ∧
        t.fleet = s.fleet.map (fun v => Vehicle.fresh v.number v.cls v.kind v.capacity v.target v.washDays) ∧
        t.charge = { s.charge with pass := none, rerun := false } ∧ t.params = s.params ∧ t.clock = s.clock ∧
        t.store = { s.store with cause := .restart } ∧ t.pins = s.pins ∧ t.power = s.power)

/-! ### Yard -/

/-- R47 to R52, R58: a GATE_IN of an ABSENT vehicle reserves the lane chosen, or joins the apron, or joins the station queue
where no unit of the station is READY, or goes through an empty queue onto the first unit where that is READY, onto the second
where that alone is (R74); where nothing takes it, it is refused FULL with YARD_FULL and stays as it was. No pass is started.
What is refused before (R47, R164): a wash byte that is neither yes nor no BAD_FORM, a number without a record UNKNOWN, a
vehicle that is not ABSENT STATE_CONFLICT. R49, R50, R54: what decides the disposition, at the gate and where a route is
continued: the first step of the route whose queue has room and whose station is open is taken and those before it are
skipped; with none, the lane choice, then the apron below 8, then nothing. R51: the reply gives the route built, the steps
skipped, state, location and stage, and is ADJUSTED for a level above the capacity. -/
def Obligations.GateInPlaces : Prop :=
  (∀ (h : Hdr) (f level wash : Nat) (s : State), Clear h 0x20 s → h.len = 6 →
    let refused (c : RefuseCode) : Prop := exec (.gateIn h f level wash) s = .next (s.answered h 0x20 (.refuse c))
    (1 < wash → refused .badForm) ∧ (wash ≤ 1 → s.vehicle? f = none → refused .unknown) ∧
    (wash ≤ 1 → ∀ v, s.vehicle? f = some v → v.state ≠ .absent → refused .stateConflict)) ∧
  (∀ (s : State) (v : Vehicle) (route : List Station),
    let p := s.plan v route
    let takes (st : Station) : Prop := (s.queue st).length < (if st = .wash then 12 else 8) ∧
      ∃ u : UnitId, u.station = st ∧ (s.unit u).state ∈ ([.ready, .occupied, .exitBlocked] : List UnitState)
    route = p.skipped ++ p.route ∧ (∀ st ∈ p.skipped, ¬ takes st) ∧
    (∀ st rest, p.route = st :: rest → takes st ∧ p.disp = .queue st) ∧
    (∀ l n, p.route = [] → s.laneChoice v = some (l, n) → p.disp = .lane l n) ∧
    (p.route = [] → s.laneChoice v = none → p.disp = if s.apron.length < 8 then .apron else .nowhere)) ∧
  ∀ (h : Hdr) (f level wash : Nat) (w : Bool) (v : Vehicle) (s : State), Clear h 0x20 s → h.len = 6 →
    yesNo? wash = some w → s.vehicle? f = some v → v.state = .absent →
    let v1 : Vehicle := { v with level := min level v.capacity, washOwed := false, fuelOwed := false }
    let route := (if v.kind = .fuel ∧ v1.level < s.params.refuelBelow then [Station.fuel] else []) ++
      (if s.params.washInterval ≤ v.washDays ∨ w = true then [Station.wash] else [])
    let p := s.plan v1 route
    let rest : Vehicle := { v1.oweAll p.skipped with route := p.route }
    let replied (t : State) (st : VState) (at_ : Location) (stage : Option Nat) : Prop :=
      let r : Result := .gateIn ⟨route, p.skipped, st, at_, stage⟩
      t.answerOn h.port = some (if v.capacity < level then .adjusted r else .accept r)
    ∃ t, exec (.gateIn h f level wash) s = .next t ∧ SameControl s t ∧ SameLines h.port s t ∧
      (Settled s f v →
        (∀ l n, p.disp = .lane l n → s.reservedLane? f = none → replied t .placing (.reserved l) (some n)) ∧
        (p.disp = .apron → replied t .apron (.apron (s.apron.length + 1)) none) ∧
        (∀ st, p.disp = .queue st → (s.unit st.first).state ≠ .ready → (s.unit st.second).state ≠ .ready →
          ∃ place, (t.queue st)[place]? = some f ∧ replied t .queued (.queue st (place + 1)) none) ∧
        (∀ st, p.disp = .queue st → (s.unit st.first).state = .ready → s.queue st = [] →
          replied t .servicing (.onUnit st.first) none) ∧
        (∀ st, p.disp = .queue st → (s.unit st.first).state ≠ .ready → (s.unit st.second).state = .ready →
          s.queue st = [] → replied t .servicing (.onUnit st.second) none)) ∧
      t.duties = s.duties ∧ t.window = s.window ∧ t.charge = s.charge ∧ t.unplaced = s.unplaced ∧
      (∀ l n, p.disp = .lane l n →
        t.vehicle? f = some { rest with state := .placing, placedAt := some s.clock.minute } ∧
        t.lane l = { s.lane l with reserved := (s.lane l).reserved ++ [f] } ∧ SameLanes l s t ∧ t.apron = s.apron ∧
        t.stations = s.stations ∧ SameVehicles f s t) ∧
      (p.disp = .apron →
        t.vehicle? f = some { rest with state := .apron, placedAt := none } ∧ t.apron = s.apron ++ [f] ∧
        t.lanes = s.lanes ∧ t.stations = s.stations ∧ SameVehicles f s t) ∧
      (∀ st, p.disp = .queue st → (s.unit st.first).state ≠ .ready → (s.unit st.second).state ≠ .ready →
        t.vehicle? f = some { rest with state := .queued, placedAt := none } ∧ f ∈ t.queue st ∧
        (t.queue st).length = (s.queue st).length + 1 ∧ (∀ u, t.unit u = s.unit u) ∧ t.lanes = s.lanes ∧
        t.apron = s.apron ∧ SameVehicles f s t) ∧
      (∀ st, p.disp = .queue st → (s.unit st.first).state = .ready → s.queue st = [] →
        t.vehicle? f = some { rest with state := .servicing, placedAt := none } ∧
        t.unit st.first = ⟨.occupied, some f, some (s.params.preset st), 0, false, false⟩ ∧ t.queue st = [] ∧
        t.unit st.second = s.unit st.second ∧ t.lanes = s.lanes ∧ t.apron = s.apron ∧ SameVehicles f s t) ∧
      (∀ st, p.disp = .queue st → (s.unit st.first).state ≠ .ready → (s.unit st.second).state = .ready →
        s.queue st = [] →
        t.vehicle? f = some { rest with state := .servicing, placedAt := none } ∧
        t.unit st.second = ⟨.occupied, some f, some (s.params.preset st), 0, false, false⟩ ∧ t.queue st = [] ∧
        t.unit st.first = s.unit st.first ∧ t.lanes = s.lanes ∧ t.apron = s.apron ∧ SameVehicles f s t) ∧
      (p.disp = .nowhere →
        t.fleet = s.fleet ∧ t.lanes = s.lanes ∧ t.apron = s.apron ∧ t.stations = s.stations ∧
        t.answerOn h.port = some (.refuse .full) ∧
        ((s.port .dispatch).notices.length < 32 → (t.port .dispatch).notices = (s.port .dispatch).notices ++
          [⟨.yardFull, s.clock.minute, some f, v.binding.map Binding.other, none, some v.cls.length, none⟩]))

/-- R5, R6, R20, R144 to R146: a GATE_OUT of a vehicle that is not ABSENT takes it out: its record is that of an ABSENT
vehicle with ran today set and no binding, every step still on its route owed, its level, wash-day counter and held flag kept;
in a whole yard it stands afterwards in no lane, queue or unit, nor on the apron or the unplaced list. A called duty becomes
RELEASED with the vehicle as its departed vehicle, a bound one OPEN. A departure of a vehicle that is not CALLED frees no
slot, and UNSCHEDULED_DEPARTURE is the first notice it posts. One of a vehicle that is plugged, PARKED or CALLED triggers a
pass (R17), in a whole yard with the snapshot of the yard as the departure leaves it; no other departure does. One from a
place behind position 1 of its lane is told as NOT_AT_EXIT (R43; that its place is the lane left is log 16, DEDUCED). A number
without a record is UNKNOWN. R61, R135, R146: the departure done, a CALLED one ends with the scan of the freed slot, and one
from a lane, a reservation, the apron or the unplaced list with the retry sweep, from the yard as it was without the vehicle.
-/
def Obligations.GateOutDeparts : Prop :=
  (∀ (h : Hdr) (f : Nat) (s : State), Clear h 0x21 s → h.len = 3 → s.vehicle? f = none →
    exec (.gateOut h f) s = .next (s.answered h 0x21 (.refuse .unknown))) ∧
  ∀ (h : Hdr) (f : Nat) (v : Vehicle) (s : State), Clear h 0x21 s → h.len = 3 → s.vehicle? f = some v →
    (v.state = .absent → exec (.gateOut h f) s = .next (s.answered h 0x21 (.refuse .stateConflict))) ∧
    (v.state ≠ .absent → Settled s f v →
      ∃ t w r, exec (.gateOut h f) s = .next t ∧ t.vehicle? f = some w ∧
        w.state = .absent ∧ w.ranToday = true ∧ w.plugged = false ∧ w.stale = false ∧ w.grant = 0 ∧ w.route = [] ∧
        w.binding = none ∧ w.blocked = false ∧ w.placedAt = none ∧ w.level = v.level ∧ w.washDays = v.washDays ∧
        w.held = v.held ∧ w.washOwed = (v.washOwed || v.route.contains .wash) ∧
        w.fuelOwed = (v.fuelOwed || v.route.contains .fuel) ∧ SameControl s t ∧ SameLines h.port s t ∧
        (RegisterOk s → YardOk s → f ∉ t.placed) ∧
        t.answerOn h.port = some (.accept (.gateOut r)) ∧ (r.release = true ↔ v.state = .called) ∧
        r.duty = v.binding.map Binding.other ∧ r.state = v.state ∧ r.lane = (s.location v).lane? ∧
        (∀ b d, v.binding = some b → s.duty? b.other = some d →
          ∃ d', t.duty? b.other = some d' ∧ d'.binding = none ∧
            (v.state = .called → d'.state = .released ∧ d'.departed = some f) ∧
            (v.state ≠ .called → d'.state = .openState)) ∧
        (∀ l, v.state = .parked ∨ v.state = .called → s.parkedLane? f = some l → (s.lane l).parked.head? ≠ some f →
          ∀ p, p = .dispatch ∨ p = .service → Told p (fun x => x.kind = .mapConflict ∧ x.fleet = some f ∧
            x.place = some (.lane l) ∧ x.value = some 5 ∧ x.second = some ((s.lane l).parked.idxOf f + 1)) t) ∧
        (v.state ≠ .called → t.window = s.window ∧
          ((s.port .dispatch).notices.length < 32 →
            (t.port .dispatch).notices[(s.port .dispatch).notices.length]? = some
              ⟨.unscheduledDeparture, s.clock.minute, some f, v.binding.map Binding.other,
                (s.location v).lane?.map Place.lane, some v.state.code, none⟩)) ∧
        PassFollows (RegisterOk s ∧ YardOk s) (v.plugged = true ∨ v.state = .parked ∨ v.state = .called) s t ∧
        (RegisterOk s → YardOk s → ∃ u : State,
          u.clock = s.clock ∧ u.params = s.params ∧ u.vehicle? f = t.vehicle? f ∧
          u.window = s.window.filter (fun x => x.fleet ≠ f) ∧ (v.binding = none → u.duties = s.duties) ∧
          (∀ b ∈ v.binding, SameDuties b.other s u) ∧
          (v.state ≠ .servicing → SameVehiclesButBlocked f s u ∧ u.apron = s.apron.filter (fun g => g ≠ f) ∧
            u.unplaced = s.unplaced.filter (fun x => x.fleet ≠ f) ∧
            ∀ l, u.lane l = ⟨(s.lane l).defn, (s.lane l).parked.filter (fun g => g ≠ f),
              (s.lane l).reserved.filter (fun g => g ≠ f)⟩) ∧
          Closes (v.state = .called) (v.state ∈ ([.apron, .placing, .parked, .called] : List VState)) u t))

/-- R5, R6, R32 to R36: a LANE_ENTRY that passes the room test leaves the vehicle in the lane's parked list and nobody else
there who was not there before; the other lanes lose at most that vehicle, and no definition changes. From whatever state it
came, its record is that of a vehicle PARKED: unplugged, without grant, its route abandoned with every step owed; a scan may
have called it again where the entry freed a slot. A repeated report changes nothing and a CALLED vehicle reported in its own
lane has its call withdrawn and stays where it stands (the count of 0 in both replies is log 36, DESIGN CHOICE), and a report
that finds no room is refused FULL and changes only the notice queues; one of a lane outside 1..24 or of a number without a
record is UNKNOWN. R34: where the lengths do not fit, reservations are dropped, newest first, and only until they do; their
number is replied, and each holder is reallocated. R38: WRONG_LANE, MISSED_GATE and CLASS_LIMIT are told of; that their place
is the lane reported, and not the one reserved, and their duty the one bound as they are posted, is log 16 (DEDUCED). (A
station that the entry shuts may add reservations before any is dropped, its queue being flushed, R79.) A shunt of a plugged
vehicle triggers a pass, and nothing else does (R33, R97). R44, R61, R135: the report done, a withdrawn call is followed by
the scan of the freed slot, and freed space, a vehicle gone from the apron or the unplaced list, or a DEADEND lane whose head
is no longer CALLED by the retry sweep. -/
def Obligations.LaneEntryParks : Prop :=
  (∀ (h : Hdr) (f n : Nat) (s : State), Clear h 0x30 s → h.len = 4 → ¬ Within 1 24 n ∨ s.vehicle? f = none →
    exec (.laneEntry h f n) s = .next (s.answered h 0x30 (.refuse .unknown))) ∧
  ∀ (h : Hdr) (f n : Nat) (l : LaneId) (v : Vehicle) (s : State), Clear h 0x30 s → h.len = 4 → laneOf? n = some l →
    s.vehicle? f = some v →
    let joins := (v.state = .placing ∧ f ∈ (s.lane l).reserved) ∨ s.occupied l + v.cls.length ≤ (s.lane l).defn.capacity
    (v.state = .parked → f ∈ (s.lane l).parked →
      exec (.laneEntry h f n) s = .next (s.answered h 0x30 (.accept (.entered (s.position l f) 0)))) ∧
    (v.state = .called → f ∈ (s.lane l).parked →
      ∃ t, exec (.laneEntry h f n) s = .next t ∧ (∀ r, (t.lane r).parked = (s.lane r).parked) ∧
        t.answerOn h.port = some (.accept (.entered (s.position l f) 0)) ∧ SameControl s t ∧ SameLines h.port s t ∧
        (∀ w ∈ s.window, w.fleet = f → ∀ p, p = .gate ∨ p = .dispatch →
          Told p (fun x => x.kind = .callWithdrawn ∧ x.fleet = some f ∧ x.value = some 1) t) ∧
        t.charge = s.charge ∧ (RegisterOk s → YardOk s → SlotFreed f s t)) ∧
    (¬ joins → f ∉ (s.lane l).parked →
      ∃ t, exec (.laneEntry h f n) s = .next t ∧ t.answerOn h.port = some (.refuse .full) ∧
        t = { s with pins := { s.pins with lock := h.lock }, ports := t.ports } ∧ SameLines h.port s t ∧
        Told .dispatch (fun x => x.kind = .mapConflict ∧ x.fleet = some f ∧ x.value = some 1) t) ∧
    (joins → f ∉ (s.lane l).parked →
      let fits (x : List Nat) : Prop := s.occupied l + v.cls.length + s.lengthSum x ≤ (s.lane l).defn.capacity
      let conflict (cause : Nat) (t : State) : Prop := ∀ p, p = .dispatch ∨ p = .service → Told p (fun x =>
        x = ⟨.mapConflict, s.clock.minute, some f, v.binding.map Binding.other, some (.lane l), some cause, none⟩) t
      ∃ t k kept gone added, exec (.laneEntry h f n) s = .next t ∧ f ∈ (t.lane l).parked ∧
        (s.lane l).reserved.filter (fun g => g ≠ f) ++ added = kept ++ gone ∧ (v.state ≠ .servicing → added = []) ∧
        k = gone.length ∧ (kept = [] ∨ fits kept) ∧ (∀ g ∈ gone.head?, ¬ fits (kept ++ [g])) ∧
        kept <+: (t.lane l).reserved ∧
        (∀ g ∈ gone, s.vehicle? g ≠ none → Told .gate (fun x =>
          x.kind = .reallocated ∧ x.fleet = some g ∧ x.value = some n) t) ∧
        (v.state = .absent → conflict 3 t) ∧
        (∀ r, v.state = .placing → s.reservedLane? f = some r → r ≠ l →
          conflict 2 t ∧ (Settled s f v → f ∉ (t.lane r).reserved)) ∧
        ((s.lane l).defn.lowClearance = true ∧ v.cls = .double ∨ (s.lane l).defn.shortTurn = true ∧ v.cls = .artic →
          conflict 4 t) ∧
        (∀ g, g ≠ f → (g ∈ (t.lane l).parked ↔ g ∈ (s.lane l).parked)) ∧
        (∀ r g, r ≠ l → g ≠ f → (g ∈ (t.lane r).parked ↔ g ∈ (s.lane r).parked)) ∧
        (∀ r, (t.lane r).defn = (s.lane r).defn) ∧
        t.answerOn h.port = some (.accept (.entered
          (if (s.lane l).defn.kind = .through then (s.lane l).parked.length + 1 else 1) k)) ∧
        SameControl s t ∧ SameLines h.port s t ∧
        (Settled s f v →
          ∃ w, t.vehicle? f = some w ∧ (w.state = .parked ∨ w.state = .called) ∧
            (v.state ≠ .called → ((s.lane l).defn.kind = .through ∨ s.headCalled? l = none) → w.state = .parked) ∧
            w.plugged = false ∧ w.grant = 0 ∧ w.stale = false ∧ w.route = [] ∧ w.placedAt = none ∧
            w.washOwed = (v.washOwed || v.route.contains .wash) ∧ w.fuelOwed = (v.fuelOwed || v.route.contains .fuel) ∧
            w.level = v.level ∧ w.washDays = v.washDays ∧ w.held = v.held ∧ w.ranToday = v.ranToday ∧
            w.binding = v.binding ∧ f ∉ t.apron ∧ f ∉ t.unplaced.map Unplaced.fleet ∧ (∀ st, f ∉ t.queue st) ∧
            ∀ u, (t.unit u).vehicle ≠ some f) ∧
        PassFollows (RegisterOk s ∧ YardOk s)
          (v.plugged = true ∧ (v.state = .parked ∨ v.state = .called) ∧ s.parkedLane? f ≠ none) s t ∧
        (RegisterOk s → YardOk s →
          let head : Option Nat := if (s.lane l).defn.kind = .deadend then s.headCalled? l else none
          let freed : Prop := gone ≠ [] ∨ head ≠ none ∨ v.state ∈ ([.apron, .parked, .called] : List VState) ∨
            (v.state = .placing ∧ f ∉ (s.lane l).reserved)
          ∃ u : State, u.clock = s.clock ∧ u.params = s.params ∧ (u.vehicle? f).map Vehicle.state = some .parked ∧
            u.window = s.window.filter (fun x => x.fleet ≠ f ∧ some x.fleet ≠ head) ∧
            (∀ r, (u.lane r).parked = (t.lane r).parked) ∧ kept <+: (u.lane l).reserved ∧
            (∀ r, r ≠ l → (s.lane r).reserved.filter (fun g => g ≠ f) <+: (u.lane r).reserved) ∧
            s.apron.filter (fun g => g ≠ f) <+: u.apron ∧ s.unplaced.filter (fun x => x.fleet ≠ f) <+: u.unplaced ∧
            Closes (v.state = .called ∨ head ≠ none) freed u t))

/-- R35, R37: the ordinary arrival. A vehicle PLACING in the lane it is reported in, with the lengths within the capacity and
no CALLED vehicle in its way, joins at the entry end and is PARKED, unplugged, with its route abandoned and no grant; nothing
else of the yard changes but the blocked flags of the lane. R30, R31: what recomputing a lane does: each flag says whether a
vehicle nearer the exit has a greater key, each flag newly set is reported, from the exit, and nothing else changes. -/
def Obligations.ReservedArrivalParks : Prop :=
  (∀ (h : Hdr) (f n : Nat) (l : LaneId) (v : Vehicle) (s : State), Clear h 0x30 s → h.len = 4 → laneOf? n = some l →
    s.vehicle? f = some v → v.state = .placing → s.reservedLane? f = some l → f ∉ (s.lane l).parked →
    s.occupied l + s.reservedLength l ≤ (s.lane l).defn.capacity →
    ((s.lane l).defn.kind = .deadend → s.headCalled? l = none) →
    ∃ t w, exec (.laneEntry h f n) s = .next t ∧ t.vehicle? f = some w ∧
      w.state = .parked ∧ w.placedAt = none ∧ w.route = [] ∧ w.plugged = false ∧ w.grant = 0 ∧ w.stale = false ∧
      w.level = v.level ∧ w.binding = v.binding ∧ w.washDays = v.washDays ∧ w.held = v.held ∧
      w.washOwed = (v.washOwed || v.route.contains .wash) ∧ w.fuelOwed = (v.fuelOwed || v.route.contains .fuel) ∧
      t.lane l = ⟨(s.lane l).defn,
        if (s.lane l).defn.kind = .through then (s.lane l).parked ++ [f] else f :: (s.lane l).parked,
        (s.lane l).reserved.filter (fun g => g ≠ f)⟩ ∧
      SameLanes l s t ∧ SameVehiclesButBlocked f s t ∧ t.apron = s.apron ∧ t.unplaced = s.unplaced ∧
      t.stations = s.stations ∧ t.charge = s.charge ∧ t.duties = s.duties ∧ t.window = s.window ∧ SameControl s t) ∧
  ∀ (l : LaneId) (s : State), (s.lane l).parked.Nodup →
    let ahead (f : Nat) : List Nat := (s.lane l).parked.takeWhile (fun g => g != f)
    let now (f : Nat) : Bool := (ahead f).any (fun g => decide (s.keyOf f < s.keyOf g))
    let notice (f : Nat) : Option Notice :=
      if (s.vehicle? f).map Vehicle.blocked = some false ∧ now f = true then
        some ⟨.blocked, s.clock.minute, some f, s.dutyOf f, some (.lane l), some ((ahead f).length + 1), none⟩
      else none
    let t := s.recomputeLane l
    (∀ f v, s.vehicle? f = some v →
      t.vehicle? f = some (if f ∈ (s.lane l).parked then { v with blocked := now f } else v)) ∧
    ((s.port .dispatch).notices.length ≤ 32 → Filled .dispatch ((s.lane l).parked.filterMap notice) s t) ∧
    SamePorts .dispatch s t ∧ t = { s with fleet := t.fleet, ports := t.ports }

/-- R38 to R41: a survey splits the reported list at the first registered vehicle that is new to it and no longer fits; the
registered vehicles before that, each once and in the order reported, are the lane's new content. Each of them is PARKED,
unplugged, without grant, its route abandoned with every step owed (a scan may call one where the survey freed a slot); each
vehicle of the old list that is missing is ABSENT; a vehicle of the new list holds no reservation in the lane any more, and
the holder of one that was dropped is placed anew and reported. The reply counts all five, and is ADJUSTED where a number was
unknown or past capacity. That the count past capacity is that of every number from the first that did not fit is log 22
(DEDUCED), and that an unknown number listed twice counts twice log 35 (DESIGN CHOICE). R38, R39, R40: a number without a
record, the first vehicle past capacity, one reserved in another lane and one that the lane's class limits exclude are told
of; that the place told is the lane surveyed, and not the one reserved, and the duty the one bound as the notice is posted, is
log 16 (DEDUCED). A lane outside 1..24 is UNKNOWN. A survey that unplugs a vehicle triggers a pass (R40, R97); that one which
finds a vehicle missing does so too, plugged or not, is the model's reading of R17, log 19 (DEDUCED); no other survey does.
R41, R44, R61, R135: it ends with the scan of a freed slot and with the retry sweep, where it has a cause of one. -/
def Obligations.SurveySetsTheLane : Prop :=
  (∀ (h : Hdr) (n count : Nat) (fs : List Nat) (s : State), Clear h 0x31 s → count ≤ 16 → h.len = 3 + 2 * count →
    ¬ Within 1 24 n → exec (.laneContent h n count fs) s = .next (s.answered h 0x31 (.refuse .unknown))) ∧
  ∀ (h : Hdr) (n count : Nat) (fs : List Nat) (l : LaneId) (s : State), Clear h 0x31 s → count ≤ 16 →
    h.len = 3 + 2 * count → laneOf? n = some l →
    ∃ t taken rest, exec (.laneContent h n count fs) s = .next t ∧ fs = taken ++ rest ∧
      let known (f : Nat) : Bool := (s.vehicle? f).isSome
      let kept := (taken.filter known).eraseDups
      let missing := (s.lane l).parked.filter (fun f => !kept.contains f)
      let dropped := (s.lane l).reserved.filter (fun f => !kept.contains f)
      let unknown := taken.filter (fun f => !known f)
      (t.lane l).parked = kept ∧ s.lengthSum kept ≤ (s.lane l).defn.capacity ∧
      (∀ f ∈ rest.head?, known f = true ∧ f ∉ kept ∧ (s.lane l).defn.capacity < s.lengthSum kept + s.lengthOf f) ∧
      t.answerOn h.port = some
        (if unknown = [] ∧ rest = [] then
          .accept (.surveyed ⟨kept.length, 0, 0, missing.length, dropped.length⟩)
        else .adjusted (.surveyed ⟨kept.length, unknown.length, rest.length, missing.length, dropped.length⟩)) ∧
      (∀ f ∈ kept, ∀ v, s.vehicle? f = some v → Settled s f v →
        (f ∈ (s.lane l).parked → v.state = .parked ∨ v.state = .called) →
        ∃ w, t.vehicle? f = some w ∧ (w.state = .parked ∨ w.state = .called) ∧
          ((∀ g ∈ kept ++ missing, (s.vehicle? g).map Vehicle.state ≠ some .called) → w.state = .parked) ∧
          w.plugged = false ∧ w.grant = 0 ∧ w.stale = false ∧ w.route = [] ∧ w.placedAt = none ∧
          w.washOwed = (v.washOwed || v.route.contains .wash) ∧ w.fuelOwed = (v.fuelOwed || v.route.contains .fuel) ∧
          w.level = v.level ∧ w.washDays = v.washDays ∧ w.held = v.held ∧ w.binding = v.binding ∧
          f ∉ (t.lane l).reserved) ∧
      (let conflict (f second : Option Nat) (cause : Nat) : Prop := ∀ p, p = .dispatch ∨ p = .service → Told p (fun x =>
        x = ⟨.mapConflict, s.clock.minute, f, f.bind s.dutyOf, some (.lane l), some cause, second⟩) t
       (∀ f ∈ unknown, if 1 ≤ f ∧ f ≤ 9999 then conflict (some f) none 6 else conflict none (some f) 6) ∧
       (∀ f ∈ rest.head?, conflict (some f) none 7) ∧
       (∀ f ∈ kept, ∀ v, s.vehicle? f = some v →
        (∀ r, v.state = .placing → f ∉ (s.lane l).parked → s.reservedLane? f = some r → r ≠ l →
          conflict (some f) none 2) ∧
        ((s.lane l).defn.lowClearance = true ∧ v.cls = .double ∨ (s.lane l).defn.shortTurn = true ∧ v.cls = .artic →
          conflict (some f) none 4))) ∧
      (∀ f ∈ missing, ∀ v, s.vehicle? f = some v → Settled s f v → (v.state = .parked ∨ v.state = .called) →
        f ∉ (s.lane l).reserved → (∀ q, f ∈ (s.lane q).parked → q = l) →
        ∃ w, t.vehicle? f = some w ∧ w.state = .absent ∧ w.plugged = false ∧ w.grant = 0 ∧ w.stale = false ∧
          w.blocked = false ∧ w.ranToday = v.ranToday ∧ w.binding = v.binding ∧ w.level = v.level ∧
          Told .dispatch (fun x => x.kind = .mapConflict ∧ x.fleet = some f ∧ x.value = some 8) t) ∧
      (∀ f ∈ dropped, ∀ v, s.vehicle? f = some v → v.state = .placing → Settled s f v →
        ((t.vehicle? f).map Vehicle.state = some .placing ∨ (t.vehicle? f).map Vehicle.state = some .apron) ∧
        Told .gate (fun x => x.kind = .reallocated ∧ x.fleet = some f ∧ x.value = some n) t) ∧
      (∀ q g, q ≠ l → g ∉ kept → (g ∈ (t.lane q).parked ↔ g ∈ (s.lane q).parked)) ∧
      (∀ f ∈ kept, f ∉ (s.lane l).parked → ∀ v, s.vehicle? f = some v → (v.state = .parked ∨ v.state = .called) →
        ∀ q, s.parkedLane? f = some q → f ∉ (t.lane q).parked) ∧
      (∀ q, (t.lane q).defn = (s.lane q).defn) ∧ SameControl s t ∧ SameLines h.port s t ∧
      PassFollows (RegisterOk s ∧ YardOk s) (missing ≠ [] ∨ ∃ f ∈ kept, (s.vehicle? f).map Vehicle.plugged = some true) s t ∧
      (RegisterOk s → YardOk s →
        let is (f : Nat) (st : VState) : Prop := (s.vehicle? f).map Vehicle.state = some st
        let freed : Prop := missing ≠ [] ∨ dropped ≠ [] ∨ ∃ f ∈ kept, is f .apron ∨
          (is f .placing ∧ f ∉ (s.lane l).reserved) ∨ ((is f .parked ∨ is f .called) ∧ f ∉ (s.lane l).parked) ∨
          (is f .called ∧ (s.lane l).defn.kind = .deadend)
        ∃ u : State, u.clock = s.clock ∧ u.params = s.params ∧
          (∀ f ∈ kept, (u.vehicle? f).map Vehicle.state = some .parked) ∧
          u.window = s.window.filter (fun x => x.fleet ∉ kept ++ missing) ∧
          (∀ r, (u.lane r).parked = (t.lane r).parked) ∧
          (∀ r, r ≠ l → (s.lane r).reserved.filter (fun g => g ∉ kept) <+: (u.lane r).reserved) ∧
          s.apron.filter (fun g => g ∉ kept) <+: u.apron ∧ s.unplaced.filter (fun x => x.fleet ∉ kept) <+: u.unplaced ∧
          Closes (∃ f ∈ kept ++ missing, is f .called) freed u t)

/-- R16, R17: the four rows of PLUG for a BATTERY vehicle PARKED or CALLED in an equipped lane, and STATE_CONFLICT for
every other; a byte that is neither yes nor no is refused BAD_FORM first (R164), and a number without a record UNKNOWN. -/
def Obligations.PlugReported : Prop :=
  (∀ (h : Hdr) (f yes : Nat) (s : State), Clear h 0x32 s → h.len = 4 →
    (1 < yes → exec (.plug h f yes) s = .next (s.answered h 0x32 (.refuse .badForm))) ∧
    (yes ≤ 1 → s.vehicle? f = none → exec (.plug h f yes) s = .next (s.answered h 0x32 (.refuse .unknown)))) ∧
  ∀ (h : Hdr) (f : Nat) (on : Bool) (v : Vehicle) (s : State), Clear h 0x32 s → h.len = 4 → s.vehicle? f = some v →
    (¬ (v.kind = .battery ∧ s.equippedLane? v ≠ none) →
      exec (.plug h f (flagCode on)) s = .next (s.answered h 0x32 (.refuse .stateConflict))) ∧
    (v.kind = .battery → s.equippedLane? v ≠ none →
      (v.plugged = on → exec (.plug h f (flagCode on)) s = .next (s.answered h 0x32 (.accept .none))) ∧
      (v.plugged ≠ on →
        ∃ t, exec (.plug h f (flagCode on)) s = .next t ∧ t.answerOn h.port = some (.accept .none) ∧
          t.vehicle? f = some (if on then { v with plugged := true }
            else { v with plugged := false, stale := false, grant := 0 }) ∧
          SameVehicles f s t ∧ PassTriggered s t ∧ SamePorts h.port s t ∧
          t = { s with
            fleet := t.fleet, charge := t.charge, pins := { s.pins with lock := h.lock }, ports := t.ports }))

/-- R12, R13: an ENERGY_REPORT sets the level and the report minute; a BATTERY vehicle's stale flag is cleared, and a crossing
of its target triggers a pass and, upward, zeroes its grant; of an ABSENT vehicle it is refused, and of a number without a
record UNKNOWN. -/
def Obligations.EnergyReported : Prop :=
  (∀ (h : Hdr) (f level : Nat) (s : State), Clear h 0x33 s → h.len = 5 → s.vehicle? f = none →
    exec (.energyReport h f level) s = .next (s.answered h 0x33 (.refuse .unknown))) ∧
  ∀ (h : Hdr) (f level : Nat) (v : Vehicle) (s : State), Clear h 0x33 s → h.len = 5 → s.vehicle? f = some v →
    (v.state = .absent → exec (.energyReport h f level) s = .next (s.answered h 0x33 (.refuse .stateConflict))) ∧
    (v.state ≠ .absent →
      let lv := min level v.capacity
      let up := v.level < v.target ∧ v.target ≤ lv
      let down := v.target ≤ v.level ∧ lv < v.target
      ∃ t, exec (.energyReport h f level) s = .next t ∧
        t.answerOn h.port = some (if level ≤ v.capacity then .accept .none else .adjusted .none) ∧
        (v.kind = .battery → t.vehicle? f = some { v with
          level := lv, lastReport := some s.clock.minute, stale := false, grant := if up then 0 else v.grant }) ∧
        (v.kind = .fuel → t.vehicle? f = some { v with level := lv, lastReport := some s.clock.minute }) ∧
        (v.kind = .battery ∧ (up ∨ down) → PassTriggered s t) ∧
        (¬ (v.kind = .battery ∧ (up ∨ down)) → t.charge = s.charge) ∧
        SameVehicles f s t ∧ SamePorts h.port s t ∧
        t = { s with fleet := t.fleet, charge := t.charge, pins := { s.pins with lock := h.lock }, ports := t.ports })

/-- R72, R73, R77 to R80: how a unit takes a report by its present state. Where no vehicle is handed on, the unit alone
changes. A unit made READY takes the head of a waiting queue, the other unit not being READY. A report that shuts the station
flushes its queue: it is empty, STATION_FLUSHED tells how many it held, and each of its vehicles owes the step, is moved on
and is told of by ROUTE. A FAULT report for an OCCUPIED unit ends the turn abnormally: the unit is in FAULT, its vehicle owes
the step, and goes where the rest of its route, the lane choice or the apron takes it, or to the unplaced list. A unit name
that is none of the four is UNKNOWN, and then a reported state that is none of the three BAD_FORM. -/
def Obligations.UnitReported : Prop :=
  (∀ (h : Hdr) (n r : Nat) (s : State), Clear h 0x34 s → h.len = 3 →
    (¬ Within 0x31 0x34 n → exec (.stationState h n r) s = .next (s.answered h 0x34 (.refuse .unknown))) ∧
    (Within 0x31 0x34 n → ¬ Within 1 3 r →
      exec (.stationState h n r) s = .next (s.answered h 0x34 (.refuse .badForm)))) ∧
  ∀ (h : Hdr) (u : UnitId) (s : State), Clear h 0x34 s → h.len = 3 →
    let x := s.unit u
    let st := u.station
    let quiet := s.queue st = []
    let alone (p : UnitState → Prop) : Prop := ∀ r, r.station = st → r ≠ u → p (s.unit r).state
    let still (n : Nat) (y : StationUnit) : Prop :=
      ∃ t, exec (.stationState h u.code n) s = .next t ∧ t.unit u = y ∧ (∀ r, r ≠ u → t.unit r = s.unit r) ∧
        t.answerOn h.port = some (.accept (.unitState y.state y.closing y.faultPending)) ∧ t.fleet = s.fleet ∧
        t.lanes = s.lanes ∧ t.apron = s.apron ∧ (∀ st, t.queue st = s.queue st) ∧ SameControl s t ∧ t.charge = s.charge
    ((x.state = .closed ∨ x.state = .fault) → quiet → still 1 (StationUnit.vacant .ready)) ∧
    (x.state = .ready → still 1 x) ∧
    ((x.state = .occupied ∨ x.state = .exitBlocked) →
      exec (.stationState h u.code 1) s = .next (s.answered h 0x34 (.refuse .stateConflict)) ∧
      still 2 { x with closing := true }) ∧
    ((x.state = .ready ∨ x.state = .fault) → quiet → still 2 (StationUnit.vacant .closed)) ∧
    (x.state = .closed → still 2 x) ∧
    ((x.state = .ready ∨ x.state = .closed) → quiet → still 3 (StationUnit.vacant .fault)) ∧
    (x.state = .fault → still 3 x) ∧
    (x.state = .exitBlocked → still 3 { x with faultPending := true }) ∧
    (∀ g rest v, (x.state = .closed ∨ x.state = .fault) → alone (fun y => y ≠ .ready) → s.queue st = g :: rest →
      s.vehicle? g = some v →
      ∃ t, exec (.stationState h u.code 1) s = .next t ∧
        t.unit u = ⟨.occupied, some g, some (s.params.preset st), 0, false, false⟩ ∧
        (∀ r, r ≠ u → t.unit r = s.unit r) ∧ t.queue st = rest.filter (fun f => f ≠ g) ∧
        t.vehicle? g = some { v with state := .servicing } ∧ SameVehicles g s t ∧ t.lanes = s.lanes ∧ t.apron = s.apron ∧
        t.answerOn h.port = some (.accept (.unitState .occupied false false)) ∧ SameControl s t ∧
        Told .service (fun y => y.kind = .stationCall ∧ y.fleet = some g ∧ y.place = some (.unit u)) t) ∧
    (∀ n, ((n = 2 ∧ x.state = .ready) ∨ (n = 3 ∧ (x.state = .ready ∨ x.state = .occupied))) →
      alone (fun y => y = .closed ∨ y = .fault) →
      ∃ t, exec (.stationState h u.code n) s = .next t ∧ t.queue st = [] ∧
        t.unit u = StationUnit.vacant (if n = 2 then .closed else .fault) ∧
        (∀ p, p = .service ∨ p = .dispatch →
          Told p (fun y => y.kind = .stationFlushed ∧ y.place = some (.station st) ∧ y.value = some (s.queue st).length) t) ∧
        (∀ g ∈ s.queue st, ∀ v, s.vehicle? g = some v →
          ∃ w, t.vehicle? g = some w ∧ (st = .wash → w.washOwed = true) ∧ (st = .fuel → w.fuelOwed = true) ∧
            w.level = v.level ∧
            w.state ∈ ([.queued, .servicing, .placing, .apron] : List VState) ∧
            Told .service (fun y => y.kind = .route ∧ y.fleet = some g) t) ∧
        (∀ l, (t.lane l).parked = (s.lane l).parked) ∧ SameControl s t ∧ t.charge = s.charge ∧ t.duties = s.duties) ∧
    (∀ f v, x.state = .occupied → x.vehicle = some f → s.vehicle? f = some v → Settled s f v →
      let v1 : Vehicle := { v with
        route := v.route.erase st, washOwed := v.washOwed || st == .wash, fuelOwed := v.fuelOwed || st == .fuel }
      let s1 := (s.setUnit u (StationUnit.vacant .fault)).modVehicle f (fun _ => v1)
      let p := s1.plan v1 v1.route
      ∃ t w, exec (.stationState h u.code 3) s = .next t ∧ t.unit u = StationUnit.vacant .fault ∧ t.vehicle? f = some w ∧
        w.route = p.route ∧ w.level = v.level ∧ w.washDays = v.washDays ∧ w.binding = v.binding ∧
        w.washOwed = (v1.washOwed || p.skipped.contains .wash) ∧ w.fuelOwed = (v1.fuelOwed || p.skipped.contains .fuel) ∧
        (∀ l n, p.disp = .lane l n → w.state = .placing ∧ f ∈ (t.lane l).reserved) ∧
        (p.disp = .apron → w.state = .apron ∧ f ∈ t.apron) ∧
        (∀ q, p.disp = .queue q → (w.state = .queued ∧ f ∈ t.queue q) ∨
          (w.state = .servicing ∧ ∃ r, r.station = q ∧ (t.unit r).vehicle = some f)) ∧
        (p.disp = .nowhere → w.state = .placing ∧ ⟨f, .service⟩ ∈ t.unplaced) ∧
        Told .service (fun y => y.kind = .route ∧ y.fleet = some f) t ∧
        t.answerOn h.port = some (.accept (.unitState .fault false false)) ∧ SameControl s t ∧ SameLines h.port s t ∧
        (∀ l, (t.lane l).parked = (s.lane l).parked) ∧ t.charge = s.charge ∧ t.duties = s.duties ∧ t.window = s.window)

/-- R73, R78, R81, R82, R83: an accepted SERVICE_DONE applies the result to the record, takes the step off the route and sends
the vehicle on: to a queue or the unit that serves it, to the lane chosen, to the apron, or, where none takes it, the unit
becomes EXIT_BLOCKED holding it. A unit that its vehicle leaves is FAULT, CLOSED or READY by its flags, and a READY one takes
the head of its own queue, the other unit not being READY. The reply names the vehicle's new place, the unit's state and the
vehicle taken next, and is ADJUSTED for a fuel level above 100. What is refused (R81): a unit name that is none of the four or
a number without a record UNKNOWN, a result that is neither OK nor FAILED BAD_FORM, and a unit that is not OCCUPIED or holds
another vehicle STATE_CONFLICT. -/
def Obligations.TurnDone : Prop :=
  (∀ (h : Hdr) (n f r level : Nat) (s : State), Clear h 0x35 s → h.len = 7 →
    let refused (c : RefuseCode) : Prop := exec (.serviceDone h n f r level) s = .next (s.answered h 0x35 (.refuse c))
    (¬ Within 0x31 0x34 n ∨ s.vehicle? f = none → refused .unknown) ∧
    (Within 0x31 0x34 n → s.vehicle? f ≠ none → ¬ Within 1 2 r → refused .badForm) ∧
    (∀ u, u.code = n → s.vehicle? f ≠ none → Within 1 2 r →
      (s.unit u).state ≠ .occupied ∨ (s.unit u).vehicle ≠ some f → refused .stateConflict)) ∧
  ∀ (h : Hdr) (u : UnitId) (f level : Nat) (ok : Bool) (v : Vehicle) (s : State), Clear h 0x35 s → h.len = 7 →
    s.vehicle? f = some v → v.state = .servicing → Settled s f v → v.route.head? = some u.station →
    (v.route = [u.station] ∨ (u.station = .fuel ∧ v.route = [.fuel, .wash])) →
    (s.unit u).state = .occupied → (s.unit u).vehicle = some f →
    let v1 : Vehicle := if u.station = .wash then
        { v with route := v.route.tail, washDays := if ok then 0 else v.washDays, washOwed := !ok }
      else { v with route := v.route.tail, level := min level 100, fuelOwed := !ok }
    let p := (s.modVehicle f (fun _ => v1)).plan v1 v1.route
    let after : UnitState :=
      if (s.unit u).faultPending then .fault else if (s.unit u).closing then .closed else .ready
    let alone : Prop := ∀ r, r.station = u.station → r ≠ u → (s.unit r).state ≠ .ready
    ∃ t w, exec (.serviceDone h u.code f (if ok then 1 else 2) level) s = .next t ∧ t.vehicle? f = some w ∧
      w.level = v1.level ∧ w.washDays = v1.washDays ∧ w.route = p.route ∧ w.binding = v.binding ∧
      w.washOwed = (v1.washOwed || p.skipped.contains .wash) ∧ w.fuelOwed = (v1.fuelOwed || p.skipped.contains .fuel) ∧
      (∀ l n, p.disp = .lane l n → w.state = .placing ∧ f ∈ (t.lane l).reserved ∧ (t.unit u).vehicle ≠ some f) ∧
      (p.disp = .apron → w.state = .apron ∧ f ∈ t.apron ∧ (t.unit u).vehicle ≠ some f) ∧
      (∀ st, p.disp = .queue st → (w.state = .queued ∧ f ∈ t.queue st) ∨
        (w.state = .servicing ∧ ∃ r, r.station = st ∧ (t.unit r).vehicle = some f)) ∧
      (p.disp = .nowhere → w.state = .servicing ∧ t.unit u = { s.unit u with state := .exitBlocked }) ∧
      (p.disp ≠ .nowhere →
        (after ≠ .ready ∨ s.queue u.station = [] → t.unit u = StationUnit.vacant after) ∧
        (∀ g rest, after = .ready → s.queue u.station = g :: rest → alone →
          t.unit u = ⟨.occupied, some g, some (s.params.preset u.station), 0, false, false⟩ ∧
          (t.vehicle? g).map Vehicle.state = (s.vehicle? g).map (fun _ => .servicing) ∧
          Told .service (fun y => y.kind = .stationCall ∧ y.fleet = some g ∧ y.place = some (.unit u)) t)) ∧
      (let r : Result := .served w.state (t.location w) (t.unit u).state
        (if (t.unit u).vehicle = some f then none else (t.unit u).vehicle)
       t.answerOn h.port = some (if u.station = .fuel ∧ 100 < level then .adjusted r else .accept r)) ∧
      SameControl s t ∧ SameLines h.port s t ∧ t.charge = s.charge ∧ t.duties = s.duties ∧ t.window = s.window

/-! ### Shared work of the yard and the roster -/

/-- R73: a READY unit takes the head of its station's queue: it is OCCUPIED with the timer at the preset, the vehicle is
SERVICING and off the queue, and STATION_CALL is posted; a unit that is not READY, or an empty queue, leaves all as it was.
R72: the test of a long flag sets it to whether the queue is longer than its threshold, and posts QUEUE_LONG or QUEUE_NORMAL
where that changes it. An event tests a queue whose length it changed once, with the length as the event leaves it: at most
one of the two notices is posted for the station, where the flag changes, and it carries that length. R135: where no retry
sweep follows, the event's tests stand before the scan of a freed slot. R61, R135: an event ends with the scan of a freed slot
and then the retry sweep, where it has the causes of them. Which of several tests comes first is log 33 (DESIGN CHOICE);
nothing here rests on it. -/
def Obligations.ReadyUnitTakesHead : Prop :=
  (∀ (u : UnitId) (s : State),
    ((s.unit u).state ≠ .ready ∨ s.queue u.station = [] → s.takeHead u = s) ∧
    (∀ f rest v, (s.unit u).state = .ready → s.queue u.station = f :: rest → s.vehicle? f = some v →
      (s.takeHead u).unit u = ⟨.occupied, some f, some (s.params.preset u.station), 0, false, false⟩ ∧
      (∀ r, r ≠ u → (s.takeHead u).unit r = s.unit r) ∧
      (s.takeHead u).queue u.station = rest.filter (fun g => g ≠ f) ∧
      (∀ st, st ≠ u.station → (s.takeHead u).queue st = s.queue st) ∧
      (s.takeHead u).vehicle? f = some { v with state := .servicing } ∧ SameVehicles f s (s.takeHead u) ∧
      SamePorts .service s (s.takeHead u) ∧
      ((s.port .service).notices.length < 32 → ((s.takeHead u).port .service).notices = (s.port .service).notices ++
        [⟨.stationCall, s.clock.minute, some f, v.binding.map Binding.other, some (.unit u),
          some (s.params.preset u.station), none⟩]) ∧
      s.takeHead u = { s with
        fleet := (s.takeHead u).fleet, stations := (s.takeHead u).stations, ports := (s.takeHead u).ports })) ∧
  (∀ (st : Station) (s : State),
    let q := (s.queue st).length
    let long := decide (s.params.longAt st < q)
    (s.stations.long st = long → s.testLong st = s) ∧
    (s.stations.long st ≠ long →
      s.testLong st = (s.setStations (s.stations.setLong st long)).post [.service]
        ⟨if long then .queueLong else .queueNormal, s.clock.minute, none, none, some (.station st), some q, none⟩)) ∧
  (∀ (due : Station → Bool) (s : State),
    ((∀ st, due st = false) → s.testLongs due = s) ∧
    (∀ st, (s.testLongs due).stations.long st =
      if due st = true then decide (s.params.longAt st < (s.queue st).length) else s.stations.long st) ∧
    s.testLongs due = { s with stations := (s.testLongs due).stations, ports := (s.testLongs due).ports }) ∧
  ∀ (s0 : State) (e : Ev),
    let s := e.s
    let t := e.finish s0
    let due (st : Station) : Prop :=
      (s0.queue st).length ≠ (s.queue st).length ∨ (s.queue st).length ≠ (t.queue st).length
    (∀ st, t.stations.long st =
      if due st then decide (s.params.longAt st < (t.queue st).length) else s.stations.long st) ∧
    ((s.port .service).notices.length ≤ 32 → ∃ new, Filled .service new s t ∧
      ∀ st, new.filter (fun x => (x.kind == .queueLong || x.kind == .queueNormal) && x.place == some (.station st)) =
        if s.stations.long st = t.stations.long st then []
        else [⟨if t.stations.long st = true then .queueLong else .queueNormal, s.clock.minute, none, none,
          some (.station st), some (t.queue st).length, none⟩]) ∧
    (e.sweep = false → t =
      let u := e.firePass.s.testLongs (s0.resized s)
      if e.slot = true then u.scan else u) ∧
    ∃ u, EndsAs e.firePass.s u ∧ u = { e.firePass.s with stations := u.stations, ports := u.ports } ∧
      Closes (e.slot = true) (e.sweep = true) u t

/-- R117, R133, R135 to R138: a call scan takes the BOUND duties due within the call lead in call order, and its checks decide
each by what they find: a duty that passes all is called, with its vehicle and an entry of the call window, while the window
has room; one that fails has the flag of its first failed check set and those of the checks before it cleared, and a notice
where the flag was clear; a full window at check 4 ends the scan at that duty, whose three flags are clear. Nothing else
changes, and while the clock is UNSET nothing at all. R140, R141: a withdrawal frees the slot, makes the duty BOUND and the
vehicle PARKED, and posts CALL_WITHDRAWN with its cause; a scan follows, and in a DEADEND lane a retry sweep. -/
def Obligations.CallScanCalls : Prop :=
  (∀ s : State,
    (s.clock.unset = true → s.scan = s) ∧
    (s.clock.unset = false → RegisterOk s → YardOk s →
      ∃ seen stop rest : List (Duty × Vehicle),
        let t := s.scan
        let order := (seen ++ stop ++ rest).map Prod.fst
        let entry (x : Duty × Vehicle) : Option WindowEntry :=
          match s.finding x.1 x.2 with
          | .ready l short => some ⟨x.1.number, x.2.number, l, short⟩
          | .notParked | .behind _ _ | .low _ => none
        let called := seen.filterMap entry
        order.Perm (s.duties.filter (fun d =>
          d.state == .bound && decide (s.dutyKey d ≤ s.now + s.params.callLead))) ∧
        order.Pairwise s.CallsEarlier ∧
        (∀ x ∈ seen ++ stop ++ rest, x.1.binding.map Binding.other = some x.2.number ∧
          s.vehicle? x.2.number = some x.2) ∧
        t.window = s.window ++ called ∧ t.window.length ≤ s.params.callWindow ∧
        ((stop = [] ∧ rest = []) ∨
          ∃ x, stop = [x] ∧ (entry x).isSome = true ∧ t.window.length = s.params.callWindow) ∧
        (∀ x ∈ seen, t.duty? x.1.number = some ((s.finding x.1 x.2).record x.1)) ∧
        (∀ x ∈ stop, t.duty? x.1.number =
          some { x.1 with notReady := false, shuntNeeded := false, lowEnergy := false }) ∧
        (∀ n, n ∉ (seen ++ stop).map (fun x => x.1.number) → t.duty? n = s.duty? n) ∧
        (∀ f v, s.vehicle? f = some v →
          t.vehicle? f = some (if f ∈ called.map WindowEntry.fleet then { v with state := .called } else v)) ∧
        ((∀ p, (s.port p).notices.length ≤ 32) → ∀ p, Filled p (seen.filterMap (fun x =>
          (s.scanNotice x.1 x.2).bind (fun n => if p ∈ n.1 then some n.2 else none))) s t) ∧
        t = { s with duties := t.duties, fleet := t.fleet, window := t.window, ports := t.ports })) ∧
  ∀ (e : Ev) (f : Nat) (c : WithdrawCause),
    ((∀ w ∈ e.s.window, w.fleet ≠ f) → e.withdraw f c = e) ∧
    (∀ w, e.s.window.find? (fun x => x.fleet == f) = some w →
      let t := e.withdraw f c
      t.s.window = e.s.window.filter (fun x => x.fleet ≠ f) ∧
      t.s.duty? w.duty = (e.s.duty? w.duty).map (fun d => { d with state := .bound }) ∧ SameDuties w.duty e.s t.s ∧
      t.s.vehicle? f = (e.s.vehicle? f).map (fun v => { v with state := .parked }) ∧ SameVehicles f e.s t.s ∧
      (∀ p, p = .gate ∨ p = .dispatch → (e.s.port p).notices.length < 32 →
        (t.s.port p).notices = (e.s.port p).notices ++ [⟨.callWithdrawn, e.s.clock.minute, some f, some w.duty,
          some (.lane w.lane), some c.code, none⟩]) ∧
      t.s.port .service = e.s.port .service ∧ t.slot = true ∧ t.trigger = e.trigger ∧
      t.sweep = (e.sweep || (e.s.lane w.lane).defn.kind == .deadend) ∧
      t.s = { e.s with duties := t.s.duties, fleet := t.s.fleet, window := t.s.window, ports := t.s.ports })

/-- R127 to R129: the vehicle that automatic binding takes for a duty is, of those PARKED, not held, without a binding, of the
class and kind required, with its wash not owed where the duty asks for it and, of FUEL kind, its refuelling not owed, the one
ranked first: reachable, then with its level met, then at the smaller position, then of the lower number. The two are bound, not
fixed, UNCOVERED is cleared, and the key that moved is handed over. Where there is none, the duty becomes UNCOVERED and is
reported once. R117, R126: a run takes, in call order, the duties that are OPEN, within the horizon and not due to lapse at its
start, each dealt with whole before the next. R135: a minute event, and the one of a SET_CLOCK, does to the roster and the call
window, in this order, the lapse test, the run of automatic binding and one scan, from the roster, window and lanes as they were
(after a rollover, from the NEXT duties become CURRENT), with the clock as the event leaves it; their notices are kept. Where in
the event the work of the other blocks stands is free (log 2), and nothing here rests on it. -/
def Obligations.AutomaticBinding : Prop :=
  (∀ (e : Ev) (d : Duty), e.s.duty? d.number = some d → Ascending (e.s.fleet.map Vehicle.number) → e.trigger = false →
    let s := e.s
    let t := (e.autoBindOne d).s
    let suited (v : Vehicle) (l : LaneId) : Prop :=
      v ∈ s.fleet ∧ v.state = .parked ∧ v.held = false ∧ v.binding = none ∧
      (∀ k, d.cls = some k → v.cls = k) ∧ (∀ k, d.kind = some k → v.kind = k) ∧
      (d.wash = true → v.washOwed = false) ∧ (v.kind = .fuel → v.fuelOwed = false) ∧ s.parkedLane? v.number = some l
    let reachable (v : Vehicle) (l : LaneId) : Prop :=
      ∀ g ∈ (s.lane l).parked.takeWhile (fun g => g ≠ v.number), s.keyOf g ≤ s.dutyKey d
    let met (v : Vehicle) : Prop := d.minLevel ≤ v.level
    let first (v : Vehicle) (l : LaneId) (w : Vehicle) (r : LaneId) : Prop :=
      (reachable v l ∧ ¬ reachable w r) ∨ ((reachable v l ↔ reachable w r) ∧ ((met v ∧ ¬ met w) ∨ ((met v ↔ met w) ∧
        (s.position l v.number < s.position r w.number ∨
          (s.position l v.number = s.position r w.number ∧ v.number < w.number)))))
    let chosen (v : Vehicle) (l : LaneId) : Prop :=
      suited v l ∧ ∀ w r, suited w r → w.number ≠ v.number → first v l w r
    ((∃ v l, suited v l) → ∃ v l, chosen v l) ∧
    (∀ v l, chosen v l →
      t.duty? d.number = some { d with state := .bound, binding := some ⟨v.number, false⟩, uncovered := false } ∧
      (∃ b, t.vehicle? v.number = some { v with binding := some ⟨d.number, false⟩, blocked := b }) ∧
      SameDuties d.number s t ∧ SameVehiclesButBlocked v.number s t ∧
      (s.eligible v = false → t.charge = s.charge) ∧ (s.eligible v = true → PassTriggered s t) ∧
      t = { s with duties := t.duties, fleet := t.fleet, charge := t.charge, ports := t.ports }) ∧
    ((∀ v l, ¬ suited v l) →
      (d.uncovered = true → e.autoBindOne d = e) ∧
      (d.uncovered = false →
        t.duty? d.number = some { d with uncovered := true } ∧ SameDuties d.number s t ∧ SamePorts .dispatch s t ∧
        t = { s with duties := t.duties, ports := t.ports } ∧
        ((s.port .dispatch).notices.length < 32 → (t.port .dispatch).notices = (s.port .dispatch).notices ++
            [⟨.uncovered, s.clock.minute, none, some d.number, none, some (s.dutyKey d), none⟩])))) ∧
  (∀ e : Ev, Ascending (e.s.duties.map Duty.number) →
    ∃ l : List Duty, l.Pairwise e.s.CallsEarlier ∧
      l.Perm (e.s.duties.filter (fun d => d.state == .openState &&
        decide (e.s.dutyKey d ≤ e.s.now + e.s.params.horizon) && decide (e.s.now < e.s.dutyKey d + e.s.params.grace))) ∧
      e.autoBind = l.foldl Ev.autoBindOne e) ∧
  ∀ s : State, OnMinuteEvents s (fun _ _ _ rolls t =>
    ∃ e : Ev,
      let u := e.lapseTest.autoBind.s.scan
      t.duties = u.duties ∧ t.window = u.window ∧
      (∀ f, (t.vehicle? f).map Vehicle.binding = (u.vehicle? f).map Vehicle.binding) ∧
      (∀ p, (u.port p).notices <+: (t.port p).notices) ∧
      e.s.clock = t.clock ∧ e.s.params = s.params ∧ (∀ l, (e.s.lane l).parked = (s.lane l).parked) ∧
      (∀ l, (e.s.lane l).defn = (s.lane l).defn) ∧ (∀ p, (s.port p).notices <+: (e.s.port p).notices) ∧
      (rolls = true → e.s.duties.map (fun d => (d.number, d.day, d.due)) =
        (s.duties.filter (fun d => d.day == .next)).map (fun d => (d.number, DayTag.current, d.due))) ∧
      (rolls = false →
        e.s.duties = s.duties ∧ e.s.window = s.window ∧ e.s.lanes = s.lanes ∧
        ∀ f v, s.vehicle? f = some v → ∃ stale grant reported placed blocked, e.s.vehicle? f = some { v with
          stale := stale, grant := grant, lastReport := reported, placedAt := placed, blocked := blocked }))

/-! ### Events -/

/-- R102: the completion of a pass writes the grants computed from the snapshot to the vehicles that are still eligible in
the snapshot's lane, bounded by the rating and, if stale, by the fallback; every other grant stands. The limits of the
snapshot come into force, the pass number advances, ALLOTMENT_DONE is posted, and a rerun starts if one is pending. That a
completion with no pass in flight changes nothing is log 23 (DESIGN CHOICE). -/
def Obligations.PassCompletes : Prop :=
  ∀ s : State, s.power = .running →
    (s.charge.pass = none → exec .allotmentPassCompletion s = .next s) ∧
    (∀ x, s.charge.pass = some x →
      ∃ t, exec .allotmentPassCompletion s = .next t ∧
        t.charge = { s.charge with
          inForce := x.limits, passNumber := (s.charge.passNumber + 1) % 256, rerun := false
          pass := if s.charge.rerun then some t.snapshot else none } ∧
        t = { s with fleet := t.fleet, charge := t.charge, ports := t.ports } ∧
        SamePorts .service s t ∧
        ((s.port .service).notices.length < 32 → (t.port .service).notices = (s.port .service).notices ++
          [⟨.allotmentDone, s.clock.minute, none, none, none, some ((s.charge.passNumber + 1) % 256),
            some (s.fleet.countP (fun v => (t.vehicle? v.number).map Vehicle.grant != some v.grant))⟩]) ∧
        (∀ f v, s.vehicle? f = some v → ∃ g, t.vehicle? f = some { v with grant := g } ∧
          ((∀ a ∈ x.compute, a.v.number ≠ f) → g = v.grant) ∧
          (s.eligible v = false → g = v.grant) ∧
          (∀ a ∈ x.compute, a.v.number = f → (x.vehicles.map SnapVehicle.number).Nodup → s.eligible v = true →
            (s.parkedLane? f ≠ some a.v.lane → g = v.grant) ∧
            (s.parkedLane? f = some a.v.lane →
              let bounded := min a.grant (s.lane a.v.lane).defn.rating
              g = if v.stale = true ∧ s.params.fallback < bounded then
                  (if s.params.fallback < s.params.pMin then 0 else s.params.fallback)
                else bounded))))

/-- R91, R97, R100: on every minute event, that of a SET_CLOCK too, each vehicle that is plugged, eligible and not stale, and
whose report is absent or has expired, becomes stale, its grant is lowered to the fallback, and STALE_METER is told; no other
changes in these. The event then starts a pass, or sets rerun-pending where one is in flight; a pass that it starts in a whole
yard, and that no later trigger follows, has the snapshot of the part as the event leaves it, its flags and its depot limit
with it. Log 9 for the command STALE_METER on its own: a plugged, eligible vehicle whose report has expired becomes stale, its
grant is lowered to the fallback, and STALE_METER is posted; any other is left as it was, and so is everything while the clock
is UNSET. -/
def Obligations.StaleMeterTest : Prop :=
  (∀ s : State, OnMinuteEvents s (fun m reads held _ t =>
    (∀ f v, s.vehicle? f = some v → Settled s f v →
      v.state = .parked ∨ v.state = .called ∨ f ∉ s.window.map WindowEntry.fleet →
      let found := v.plugged = true ∧ s.eligible v = true ∧ v.stale = false ∧
        ∀ c, v.lastReport = some c → s.params.staleLimit ≤ held c
      ∃ w, t.vehicle? f = some w ∧
        (found → w.stale = true ∧ w.grant =
            (if s.params.fallback < v.grant then (if s.params.fallback < s.params.pMin then 0 else s.params.fallback)
            else v.grant) ∧
          Told .service (fun x => x = ⟨.staleMeter, m, some f, none, (s.parkedLane? f).map Place.lane,
            v.lastReport.map reads, none⟩) t) ∧
        (¬ found → w.stale = v.stale ∧ w.grant = v.grant)) ∧
    (s.charge.pass ≠ none → t.charge.pass = s.charge.pass ∧ t.charge.rerun = true) ∧
    (s.charge.pass = none → t.charge.pass ≠ none ∧
      (RegisterOk s → YardOk s → t.charge.rerun = false → t.charge.pass = some t.snapshot)) ∧
    t.charge.inForce = s.charge.inForce ∧ t.charge.passNumber = s.charge.passNumber)) ∧
  ∀ (f : Nat) (v : Vehicle) (s : State), s.power = .running → s.vehicle? f = some v →
    let expired := ∀ c, v.lastReport = some c → s.params.staleLimit ≤ (s.clock.minute + 1440 - c) % 1440
    (s.clock.unset = false → v.plugged = true → s.eligible v = true → v.stale = false → expired →
      ∃ t, exec (.staleMeter f) s = .next t ∧
        t.vehicle? f = some { v with stale := true, grant :=
          if s.params.fallback < v.grant then (if s.params.fallback < s.params.pMin then 0 else s.params.fallback)
          else v.grant } ∧
        SameVehicles f s t ∧ SamePorts .service s t ∧ t = { s with fleet := t.fleet, ports := t.ports } ∧
        ((s.port .service).notices.length < 32 → (t.port .service).notices = (s.port .service).notices ++
          [⟨.staleMeter, s.clock.minute, some f, none, (s.parkedLane? f).map Place.lane, v.lastReport, none⟩])) ∧
    ((s.clock.unset = true ∨ v.plugged = false ∨ s.eligible v = false ∨ v.stale = true ∨ ¬ expired) →
      exec (.staleMeter f) s = .next s)

/-- R65: on every minute event, that of a SET_CLOCK too, each vehicle that is PLACING, and not moved by a rollover's sweep
before, and whose placement minute has expired is reported to Gate and Dispatch, and where it holds a reservation it is
stamped anew; one whose has not keeps it. Log 9 for the command on its own: a PLACING vehicle whose placement minute has
expired is reported to Gate and Dispatch and stamped anew; any other is left as it was. -/
def Obligations.PlacementOverdueTest : Prop :=
  (∀ s : State, OnMinuteEvents s (fun m reads held rolls t =>
    ∀ f v c, s.vehicle? f = some v → v.state = .placing → v.placedAt = some c → Settled s f v →
      f ∉ s.window.map WindowEntry.fleet → s.reservedLane? f ≠ none ∨ rolls = false →
      (s.params.placeTimeout ≤ held c → ∀ p, p = .gate ∨ p = .dispatch → Told p (fun x =>
        x.kind = .placementOverdue ∧ x.stamp = m ∧ x.fleet = some f ∧ x.place = (s.reservedLane? f).map Place.lane ∧
        x.value = some (reads c)) t) ∧
      (s.reservedLane? f ≠ none → ∃ w, t.vehicle? f = some w ∧ w.state = .placing ∧
        w.placedAt = some (if s.params.placeTimeout ≤ held c then m else reads c) ∧
        t.reservedLane? f = s.reservedLane? f))) ∧
  ∀ (f : Nat) (v : Vehicle) (s : State), s.power = .running → s.vehicle? f = some v →
    (∀ c, s.clock.unset = false → v.state = .placing → v.placedAt = some c →
      s.params.placeTimeout ≤ (s.clock.minute + 1440 - c) % 1440 →
      ∃ t, exec (.placementOverdue f) s = .next t ∧ t.vehicle? f = some { v with placedAt := some s.clock.minute } ∧
        SameVehicles f s t ∧ SamePorts .gate s { t with ports := t.ports.set .dispatch s.ports.dispatch } ∧
        t = { s with fleet := t.fleet, ports := t.ports } ∧
        (∀ p, p = .gate ∨ p = .dispatch → (s.port p).notices.length < 32 →
          (t.port p).notices = (s.port p).notices ++ [⟨.placementOverdue, s.clock.minute, some f,
            v.binding.map Binding.other, (s.reservedLane? f).map Place.lane, some c, none⟩])) ∧
    (s.clock.unset = true ∨ v.state ≠ .placing ∨ v.placedAt = none ∨
        (∃ c, v.placedAt = some c ∧ (s.clock.minute + 1440 - c) % 1440 < s.params.placeTimeout) →
      exec (.placementOverdue f) s = .next s)

/-- R75, R76: on a minute event, and on the one that a SET_CLOCK of any class but SAME brings, the timer of each OCCUPIED unit
above 0 goes down by 1; one that stands at 0 stays; a unit EXIT_BLOCKED keeps its timer. A timer that comes to 0 counts and
posts the overrun, up to 255, and a fuel timer is loaded again with the preset. The command TURN_OVERRUN on its own (log 9)
does the same for a timer at 1, and leaves any other as it was. -/
def Obligations.TurnTimerOverruns : Prop :=
  (∀ (u : UnitId) (s : State), s.power = .running →
    (∀ f, s.clock.unset = false → (s.unit u).state = .occupied → (s.unit u).timer = some 1 →
      (s.unit u).vehicle = some f →
      ∃ t, exec (.turnOverrun u) s = .next t ∧
        t.unit u = { s.unit u with
          timer := some (if u.station = .wash then 0 else s.params.fuelPreset)
          overruns := min ((s.unit u).overruns + 1) 255 } ∧
        (∀ r, r ≠ u → t.unit r = s.unit r) ∧ (∀ st, t.queue st = s.queue st) ∧ t.port .gate = s.port .gate ∧
        t = { s with stations := t.stations, ports := t.ports } ∧
        (∀ p, p = .service ∨ p = .dispatch → (s.port p).notices.length < 32 →
          (t.port p).notices = (s.port p).notices ++ [⟨.turnOverrun, s.clock.minute, some f, s.dutyOf f,
            some (.unit u), some (min ((s.unit u).overruns + 1) 255), none⟩])) ∧
    (s.clock.unset = true ∨ (s.unit u).state ≠ .occupied ∨ (s.unit u).timer ≠ some 1 →
      exec (.turnOverrun u) s = .next s)) ∧
  ∀ s : State,
    let counted (t : State) : Prop := ∀ u,
      (∀ n, (s.unit u).state = .occupied → (s.unit u).timer = some (n + 2) →
        t.unit u = { s.unit u with timer := some (n + 1) }) ∧
      ((s.unit u).state = .occupied → (s.unit u).timer = some 0 → t.unit u = s.unit u) ∧
      ((s.unit u).state = .occupied → (s.unit u).timer = some 1 →
        t.unit u = { s.unit u with
          timer := some (if u.station = .wash then 0 else s.params.fuelPreset)
          overruns := min ((s.unit u).overruns + 1) 255 } ∧
        ∀ f, (s.unit u).vehicle = some f → ∀ p, p = .service ∨ p = .dispatch →
          Told p (fun x => x.kind = .turnOverrun ∧ x.fleet = some f ∧ x.place = some (.unit u) ∧
            x.value = some (min ((s.unit u).overruns + 1) 255)) t) ∧
      ((s.unit u).state = .exitBlocked → (t.unit u).state = .exitBlocked → t.unit u = s.unit u)
    (s.power = .running → s.clock.unset = false → ∃ t, exec .minuteEvent s = .next t ∧ counted t) ∧
    ∀ h m1 d1, Clear h 0x10 s → h.len = 5 → m1 ≤ 1439 →
      ∃ t r, exec (.setClock h m1 d1) s = .next t ∧ t.answerOn h.port = some (.accept (.clock r)) ∧
        (r.cls ≠ .same → counted t)

/-- R142, R148: on every minute event, that of a SET_CLOCK too, each OPEN, BOUND or CALLED duty whose key plus the grace is at
or below N, with the clock as the event leaves it, lapses: it is LAPSED without a binding, its vehicle is not bound to it, and
LAPSED is posted; no other lapses. After a rollover this is said of the NEXT duties become CURRENT. Log 9 for the command on
its own: a duty whose key plus the grace is at or below N lapses: it is LAPSED without a binding, its vehicle is unbound, and
LAPSED is posted; a RELEASED or LAPSED duty, and one whose grace has not run out, is left as it was. -/
def Obligations.DutyLapses : Prop :=
  (∀ s : State, Ascending (s.duties.map Duty.number) → OnMinuteEvents s (fun m _ _ rolls t =>
    ∀ n d, s.duty? n = some d → d.day = .next ∨ rolls = false →
      (∀ w ∈ s.window, w.duty = n → d.state = .called ∧ d.binding.map Binding.other = some w.fleet) →
      let key := t.dutyKey (if rolls = true then { d with day := .current } else d)
      ∃ d', t.duty? n = some d' ∧
        ((d.state = .openState ∨ d.state = .bound ∨ d.state = .called) → key + s.params.grace ≤ t.now →
          d'.state = .lapsed ∧ d'.binding = none ∧
          Told .dispatch (fun x => x.kind = .lapsed ∧ x.stamp = m ∧ x.duty = some n ∧ x.value = some key) t ∧
          ∀ b v, d.binding = some b → s.vehicle? b.other = some v → ∃ w, t.vehicle? b.other = some w ∧
            ∀ fixed, w.binding ≠ some ⟨n, fixed⟩) ∧
        (t.now < key + s.params.grace → (d'.state = .lapsed ↔ d.state = .lapsed)))) ∧
  ∀ (n : Nat) (d : Duty) (s : State), s.power = .running → s.duty? n = some d →
    (s.clock.unset = false → d.state ≠ .released → d.state ≠ .lapsed → s.dutyKey d + s.params.grace ≤ s.now →
      ∃ t d', exec (.lapse n) s = .next t ∧ t.duty? n = some d' ∧ d'.state = .lapsed ∧ d'.binding = none ∧
        d'.due = d.due ∧ SameControl s t ∧
        ((∃ x ∈ (t.port .dispatch).notices, x.kind = .lapsed ∧ x.duty = some n) ∨
          (t.port .dispatch).overflowed = true) ∧
        (∀ b v, d.binding = some b → s.vehicle? b.other = some v →
          ∃ w, t.vehicle? b.other = some w ∧ w.binding = none ∧ w.level = v.level) ∧
        (d.binding = none →
          t = { s with duties := t.duties, ports := t.ports } ∧ SameDuties n s t ∧ SamePorts .dispatch s t ∧
          ((s.port .dispatch).notices.length < 32 → (t.port .dispatch).notices = (s.port .dispatch).notices ++
            [⟨.lapsed, s.clock.minute, none, some n, none, some (s.dutyKey d), none⟩]))) ∧
    (s.clock.unset = true ∨ d.state = .released ∨ d.state = .lapsed ∨ s.now < s.dutyKey d + s.params.grace →
      exec (.lapse n) s = .next s)

/-! ### The allotment computation -/

/-- R104: the time budget, by the binding, and its range. -/
def Obligations.TimeBudget : Prop :=
  ∀ (x : Snapshot) (v : SnapVehicle),
    (∀ due, v.duty = some (.current, due) →
      x.budget v = ((due + 1440 - x.dayStart) % 1440 : Nat) - (x.serviceMinute : Int) - x.margin) ∧
    (∀ due, v.duty = some (.next, due) →
      x.budget v = 1440 - (x.serviceMinute : Int) + ((due + 1440 - x.dayStart) % 1440 : Nat) - x.margin) ∧
    (v.duty = none →
      x.budget v =
        (if (x.readyBy + 1440 - x.minute) % 1440 = 0 then (1440 : Int)
         else ((x.readyBy + 1440 - x.minute) % 1440 : Nat)) - x.margin) ∧
    (x.serviceMinute ≤ 1439 → x.margin ≤ 60 →
      (v.duty ≠ none → -1499 ≤ x.budget v ∧ x.budget v ≤ 2879) ∧
      (v.duty = none → -59 ≤ x.budget v ∧ x.budget v ≤ 1440))

/-- R105: the need of a vehicle that is not stale is the rating where the budget has run out, and else the rounded-up power
that brings it to its target within its budget, bounded by the rating; it is at least 1 and at most the rating. For a stale
vehicle it is lowered to the fallback where it is above it. The priority order is that of the budgets, and among equal
budgets that of the fleet numbers. -/
def Obligations.NeedAndPriority : Prop :=
  (∀ (x : Snapshot) (v : SnapVehicle), 1 ≤ v.remaining → 1 ≤ v.rating →
    (v.stale = true → x.need v = min (x.need { v with stale := false }) x.fallback) ∧
    (v.stale = false →
      Within 1 v.rating (x.need v) ∧ (x.budget v ≤ 0 → x.need v = v.rating) ∧
      (0 < x.budget v →
        (x.need v - 1) * (x.budget v).toNat < 6 * v.remaining ∧
        (x.need v < v.rating → 6 * v.remaining ≤ x.need v * (x.budget v).toNat)))) ∧
  ∀ x : Snapshot,
    (x.ordered.map Alloc.v).Perm x.vehicles ∧ (∀ a ∈ x.ordered, a.need = x.need a.v) ∧
    x.ordered.Pairwise (fun a b =>
      x.budget a.v < x.budget b.v ∨ (x.budget a.v = x.budget b.v ∧ a.v.number ≤ b.v.number))

/-- R106: the capped demands, and the group budgets: each within its capped demand, their sum within the depot limit and
equal to it where the demands exceed it, each at least its rounded-down share, and the leftover of at most 3 handed out
1 kW at a time to the lowest-numbered groups with a demand. -/
def Obligations.GroupBudgets : Prop :=
  (∀ (x : Snapshot) (g : Fin 4), (x.cappedDemands x.ordered).getD g 0 =
    min ((x.vehicles.filter (fun v => v.group == g)).map x.need).sum x.limits.group[g]) ∧
  ∀ (c1 c2 c3 c4 depot : Nat),
    let caps := [c1, c2, c3, c4]
    let floors := caps.map (fun c => c * depot / caps.sum)
    let b := groupBudgets caps depot
    (caps.sum ≤ depot → b = caps) ∧
    (depot < caps.sum →
      b.length = 4 ∧ b.sum = depot ∧ (∀ i : Fin 4, b.getD i 0 ≤ caps.getD i 0) ∧ depot - floors.sum ≤ 3 ∧
      ∀ i : Fin 4, b.getD i 0 = floors.getD i 0 +
        (if caps.getD i 0 ≠ 0 ∧ (caps.take i).countP (fun c => c != 0) < depot - floors.sum then 1 else 0))

/-- R107: the split of a group's budget: the needs where they fit; else the rounded-down shares, and the leftover, which is
less than the number of vehicles with a need, 1 kW each to the first of these in priority order. The grants of the group sum
to at most its budget, each is at most its need, and the other groups' grants stand. -/
def Obligations.GroupSplit : Prop :=
  ∀ (g : Fin 4) (budget : Nat) (l : List Alloc),
    let r := splitGroup g budget l
    let d := demand g l
    let mine := inGroup g l
    let floors := mine.map (fun a => a.need * budget / d)
    let needy := mine.filter (fun a => 0 < a.need)
    r.map Alloc.v = l.map Alloc.v ∧ r.map Alloc.need = l.map Alloc.need ∧
    r.filter (fun a => a.v.group != g) = l.filter (fun a => a.v.group != g) ∧
    grantSum (inGroup g r) ≤ budget ∧ (∀ a ∈ inGroup g r, a.grant ≤ a.need) ∧
    (d ≤ budget → inGroup g r = mine.map (fun a => { a with grant := a.need })) ∧
    (budget < d →
      grantSum (inGroup g r) = budget ∧ budget - floors.sum < needy.length ∧
      (inGroup g r).filter (fun a => a.need = 0) = (mine.filter (fun a => a.need = 0)).map (fun a => { a with grant := 0 }) ∧
      (inGroup g r).filter (fun a => 0 < a.need) = needy.zipIdx.map (fun p =>
        { p.1 with grant := p.1.need * budget / d + (if p.2 < budget - floors.sum then 1 else 0) }))

/-- R108: the cut of small grants: a grant above 0 and below P_min becomes 0, every other stands, and with P_min at 0
nothing is cut. Before the cut a grant is at most its need, and that of a stale vehicle at most the fallback. -/
def Obligations.SmallGrantsCut : Prop :=
  (∀ (x : Snapshot), ∀ a ∈ splitGroups (groupBudgets (x.cappedDemands x.ordered) x.limits.depot) x.ordered,
    a.grant ≤ a.need ∧ (a.v.stale = true → a.grant ≤ x.fallback)) ∧
  ∀ (pMin : Nat) (l : List Alloc),
    (cutSmall pMin l).length = l.length ∧ cutSmall 0 l = l ∧
    (∀ (i : Nat) (a : Alloc), l[i]? = some a →
      (cutSmall pMin l)[i]? = some { a with grant := if pMin ≤ a.grant then a.grant else 0 }) ∧
    grantSum (cutSmall pMin l) ≤ grantSum l

/-- R93, R106 to R109: whatever the snapshot, the grants that a pass computes keep every group limit and the depot limit;
each is 0 or from P_min to the post's rating, and a stale vehicle's at most the fallback; and the pass computes one grant for
each vehicle of the snapshot. R17, R26, R92, R93, R98, R102: whatever the step, a vehicle that is not charge-eligible has no
grant, a stale one at most the fallback, one in a lane at most the lane's rating, and the grants sum to at most the depot limit
in force; so do those of each feeder group to its limit in force, as long as the snapshot of a pass in flight has the groups of
its lanes as they are (log 39: a lane redefined while empty during a pass). The register, the configuration and the yard are
taken as the other invariants keep them. -/
def Obligations.GrantsKeepTheLimits : Prop :=
  (∀ x : Snapshot,
    (∀ g : Fin 4, grantSum (inGroup g x.compute) ≤ x.limits.group[g]) ∧ grantSum x.compute ≤ x.limits.depot ∧
    (∀ a ∈ x.compute, (a.grant = 0 ∨ x.pMin ≤ a.grant) ∧ a.grant ≤ a.v.rating ∧
      (a.v.stale = true → a.grant ≤ x.fallback)) ∧
    (x.compute.map Alloc.v).Perm x.vehicles) ∧
  ∀ s t : State, RegisterOk s → ConfigOk s → YardOk s → GrantsOk s → step s = .next t →
    GrantsOk t ∧ (GroupsOk s → GroupsAsSnapped s → GroupsOk t)

/-! ### Lane choice -/

/-- R56, R57: the lane choice finds a lane exactly where one is eligible: defined, open, within its class limits, with the
free length, and not a DEADEND lane with a CALLED vehicle at its exit. It is found by the first of the six stages that has a
candidate, and has the least gap, capacity or violation there, and among equals the lowest number. R58: what a reservation
changes, and when NO_CHARGE_BERTH is posted. R64: a holder whose reservation was dropped is reserved anew, or joins the apron
or the unplaced list, and is told of by REALLOCATED. R62, R63: a retry sweep takes the unplaced vehicles, then those that
waited on the apron before it, then the units EXIT_BLOCKED; each goes to a lane found, else, but from the apron, to an apron
with room, told of by ROUTE, and else stays. -/
def Obligations.LaneChoiceIsEligible : Prop :=
  (∀ (s : State) (v : Vehicle),
    let k := s.vehicleKey v
    let charge : Prop := v.kind = .battery ∧ v.level < v.target
    let eligible (l : LaneId) : Prop :=
      let d := (s.lane l).defn
      d.capacity ≠ 0 ∧ d.isOpen = true ∧ ¬ (d.lowClearance = true ∧ v.cls = .double) ∧
      ¬ (d.shortTurn = true ∧ v.cls = .artic) ∧ v.cls.length + s.occupied l + s.reservedLength l ≤ d.capacity ∧
      ¬ (d.kind = .deadend ∧ ∃ f w, (s.lane l).parked.head? = some f ∧ s.vehicle? f = some w ∧ w.state = .called)
    let empty (l : LaneId) : Prop := (s.lane l).parked = [] ∧ (s.lane l).reserved = []
    let compared (l : LaneId) : Nat :=
      let entryEnd := if (s.lane l).defn.kind = .through then (s.lane l).parked.getLast? else (s.lane l).parked.head?
      (((s.lane l).reserved.getLast?.or entryEnd).map s.keyOf).getD 2880
    let order (l : LaneId) : Prop := if (s.lane l).defn.kind = .through then compared l ≤ k else k ≤ compared l
    let candidate (n : Nat) (l : LaneId) : Prop :=
      eligible l ∧ (((s.lane l).defn.equipped = true ↔ charge) ↔ (n = 1 ∨ n = 2 ∨ n = 5)) ∧
      (empty l ↔ (n = 2 ∨ n = 4)) ∧ (n = 1 ∨ n = 3 → order l)
    let measure (n : Nat) (l : LaneId) : Nat :=
      if n = 2 ∨ n = 4 then (s.lane l).defn.capacity else max k (compared l) - min k (compared l)
    (s.laneChoice v = none ↔ ∀ l, ¬ eligible l) ∧
    (∀ l n, s.laneChoice v = some (l, n) →
      Within 1 6 n ∧ candidate n l ∧ (∀ m r, Within 1 (n - 1) m → ¬ candidate m r) ∧
      ∀ r, candidate n r → measure n l < measure n r ∨ (measure n l = measure n r ∧ l ≤ r))) ∧
  ∀ (s : State) (f : Nat) (v : Vehicle), s.vehicle? f = some v →
    let charge : Prop := v.kind = .battery ∧ v.level < v.target
    let now := some s.clock.minute
    let about (k : NoticeKind) (place : Option Place) (value second : Option Nat) : Notice :=
      ⟨k, s.clock.minute, some f, v.binding.map Binding.other, place, value, second⟩
    let lane (t : State) (l : LaneId) (n : Nat) : Prop :=
      t.lane l = { s.lane l with reserved := (s.lane l).reserved ++ [f] } ∧ SameLanes l s t ∧
      t.vehicle? f = some { v with state := .placing, placedAt := now } ∧ SameVehicles f s t ∧
      (charge → n = 3 ∨ n = 4 ∨ n = 6 →
        Told .dispatch (fun y => y = about .noChargeBerth (some (.lane l)) (some n) none) t)
    let apron (t : State) (before : List Nat) : Prop :=
      t.apron = before ++ [f] ∧ t.vehicle? f = some { v with state := .apron, placedAt := none } ∧ SameVehicles f s t ∧
      t.lanes = s.lanes
    let told (t : State) (p : PortId) (n : Notice) : Prop := Told p (fun y => y = n) t
    let route (t : State) (p : PortId) (place : Option Place) (value : Option Nat) : Prop :=
      told t p (about .route place value none)
    (∀ l n,
      let t := s.reserve f l n
      lane t l n ∧ (¬ (charge ∧ (n = 3 ∨ n = 4 ∨ n = 6)) → t.ports = s.ports) ∧ SamePorts .dispatch s t ∧
      t = { s with fleet := t.fleet, lanes := t.lanes, ports := t.ports }) ∧
    (∀ r,
      let t := s.reallocate r f
      let from' := some (laneNumber r)
      (∀ l n, s.laneChoice v = some (l, n) →
        lane t l n ∧ told t .gate (about .reallocated (some (.lane l)) from' none) ∧ t.apron = s.apron) ∧
      (s.laneChoice v = none → s.apron.length < 8 →
        apron t s.apron ∧ told t .gate (about .reallocated none from' (some (s.apron.length + 1)))) ∧
      (s.laneChoice v = none → 8 ≤ s.apron.length →
        t.unplaced = s.unplaced ++ [⟨f, .gate⟩] ∧ t.vehicle? f = some { v with state := .placing, placedAt := now } ∧
        SameVehicles f s t ∧ t.lanes = s.lanes ∧ t.apron = s.apron ∧ told t .gate (about .reallocated none from' none)) ∧
      t.stations = s.stations ∧ SameControl s t) ∧
    s.sweep = [UnitId.w1, .w2, .f1, .f2].foldl State.sweepUnit
      (s.apron.foldl State.sweepApron (s.unplaced.foldl State.sweepUnplaced s)) ∧
    (∀ p,
      let t := s.sweepUnplaced ⟨f, p⟩
      let left := s.unplaced.filter (fun y => y.fleet ≠ f)
      (∀ l n, s.laneChoice v = some (l, n) → s.reservedLane? f = none →
        lane t l n ∧ t.unplaced = left ∧ t.apron = s.apron ∧ route t p (some (.lane l)) none) ∧
      (s.laneChoice v = none → s.apron.length < 8 → f ∉ s.apron →
        apron t s.apron ∧ t.unplaced = left ∧ route t p none (some (s.apron.length + 1))) ∧
      (s.laneChoice v = none → 8 ≤ s.apron.length → t = s)) ∧
    (let t := s.sweepApron f
     (∀ l n, s.laneChoice v = some (l, n) → s.reservedLane? f = none →
        lane t l n ∧ t.apron = s.apron.filter (fun g => g ≠ f) ∧ t.unplaced = s.unplaced ∧
        route t .gate (some (.lane l)) none) ∧
     (s.laneChoice v = none → t = s)) ∧
    ∀ u, (s.unit u).vehicle = some f →
      let t := s.sweepUnit u
      ((s.unit u).state ≠ .exitBlocked ∨ (s.laneChoice v = none ∧ 8 ≤ s.apron.length) → t = s) ∧
      ((s.unit u).state = .exitBlocked → Settled s f v → f ∉ s.apron → s.reservedLane? f = none →
        (∀ l n, s.laneChoice v = some (l, n) →
          f ∈ (t.lane l).reserved ∧ (t.vehicle? f).map Vehicle.state = some .placing ∧ (t.unit u).vehicle ≠ some f ∧
          route t .service (some (.lane l)) none) ∧
        (s.laneChoice v = none → s.apron.length < 8 →
          f ∈ t.apron ∧ (t.vehicle? f).map Vehicle.state = some .apron ∧ (t.unit u).vehicle ≠ some f ∧
          route t .service none (some (s.apron.length + 1))))

/-! ### Encoding -/

/-- R163, R172: the body of every well-formed request of a known kind and form spells that request. The layouts that the encoder
and the decoder share are those of log 13 (PRESUMED where R172 gives none). -/
def Obligations.RequestBodyRoundTrip : Prop :=
  ∀ (c : Instr) (h : Hdr) (b : List Byte), c.wf = true → c.hdr? = some h → encodeRequest c = some b →
    h.len = b.length → decodeRequest h.port h.lock b = c

/-! ### What every step keeps -/

/-- R161, R162, R167: no FIFO ever holds more than 4 requests and no notice queue more than 32 notices, and a reply is
transmitted only for a request that keeps its place. R160: every reply under way has a length within 3..200, with the layouts of
logs 13 to 15, and the register, the configuration and the yard as the other invariants keep them. -/
def Obligations.PortsStayBounded : Prop :=
  (∀ s t : State, PortsOk s → step s = .next t → PortsOk t) ∧
  ∀ s t : State, RegisterOk s → ConfigOk s → YardOk s → RepliesOk s → step s = .next t → RepliesOk t

/-- R133, R150: the clock stays within its ranges, and while it is UNSET it stands at 0, no pass is in flight and no duty
is called. -/
def Obligations.ClockStaysInRange : Prop := ∀ s t : State, ClockOk s → step s = .next t → ClockOk t

/-- R1, R18, R115: the register and the roster keep their sizes, no number stands twice, and no wash-day counter exceeds 15.
That the register is held in ascending fleet number and the roster in ascending duty number is log 26 (DESIGN CHOICE): the rules
give no order. -/
def Obligations.RegisterStaysInOrder : Prop := ∀ s t : State, RegisterOk s → step s = .next t → RegisterOk t

/-- R24, R93, R95, R173: the parameters, the limits, the schedule and the lane definitions stay within their ranges. -/
def Obligations.ConfigurationStaysInRange : Prop := ∀ s t : State, ConfigOk s → step s = .next t → ConfigOk t

/-- The part right after reset meets what every step keeps. That it is the part with the straps low and no valid image in the
flash is log 5 (DESIGN CHOICE). -/
def Obligations.ResetMeetsThem : Prop :=
  let s := State.reset
  PortsOk s ∧ ClockOk s ∧ RegisterOk s ∧ ConfigOk s ∧ YardOk s ∧ GrantsOk s ∧ GroupsOk s ∧ GroupsAsSnapped s ∧ RepliesOk s
end

