-- ==== Sys2Proof/Laws/Lists.lean ====
section
/-! SUPPORT. Insertion and sorting, membership in lists without an element, and looking up in a mapped list. -/

namespace Sys2Proof.Machine

theorem insertBy_perm {α : Type} (before : α → α → Bool) (x : α) (l : List α) :
    (insertBy before x l).Perm (x :: l) := by
  induction l with
  | nil => exact List.Perm.refl _
  | cons y ys ih =>
    simp only [insertBy]
    split
    · exact List.Perm.refl _
    · exact (ih.cons y).trans (List.Perm.swap x y ys)

theorem sortBy_perm {α : Type} (before : α → α → Bool) (l : List α) : (sortBy before l).Perm l := by
  induction l with
  | nil => exact List.Perm.refl _
  | cons x xs ih => exact (insertBy_perm before x _).trans (ih.cons x)

theorem mem_insertBy {α : Type} (before : α → α → Bool) (x y : α) (l : List α) :
    y ∈ insertBy before x l ↔ y = x ∨ y ∈ l := by
  rw [(insertBy_perm before x l).mem_iff, List.mem_cons]

theorem mem_sortBy {α : Type} (before : α → α → Bool) (y : α) (l : List α) : y ∈ sortBy before l ↔ y ∈ l :=
  (sortBy_perm before l).mem_iff

/-- Insertion keeps a list in order, where what does not come before stands behind. -/
theorem insertBy_pairwise {α : Type} (before : α → α → Bool) (r : α → α → Prop)
    (trans : ∀ a b c, r a b → r b c → r a c) (yes : ∀ a b, before a b = true → r a b)
    (no : ∀ a b, before a b = false → r b a) (x : α) (l : List α) (h : l.Pairwise r) :
    (insertBy before x l).Pairwise r := by
  induction l with
  | nil => exact List.pairwise_singleton r x
  | cons y ys ih =>
    obtain ⟨hy, hys⟩ := List.pairwise_cons.1 h
    simp only [insertBy]
    split
    · rename_i hb
      refine List.pairwise_cons.2 ⟨fun z hz => ?_, h⟩
      rcases List.mem_cons.1 hz with rfl | hz
      · exact yes _ _ hb
      · exact trans _ _ _ (yes _ _ hb) (hy z hz)
    · rename_i hb
      refine List.pairwise_cons.2 ⟨fun z hz => ?_, ih hys⟩
      rcases (mem_insertBy before x z ys).1 hz with rfl | hz
      · exact no _ _ (by simpa using hb)
      · exact hy z hz

theorem sortBy_pairwise {α : Type} (before : α → α → Bool) (r : α → α → Prop)
    (trans : ∀ a b c, r a b → r b c → r a c) (yes : ∀ a b, before a b = true → r a b)
    (no : ∀ a b, before a b = false → r b a) (l : List α) : (sortBy before l).Pairwise r := by
  induction l with
  | nil => exact List.Pairwise.nil
  | cons x xs ih => exact insertBy_pairwise before r trans yes no x _ ih

theorem mem_without (x y : Nat) (l : List Nat) : y ∈ without x l ↔ y ∈ l ∧ y ≠ x := by simp [without]

theorem without_of_notMem (x : Nat) (l : List Nat) (h : x ∉ l) : without x l = l := by
  simp only [without, List.filter_eq_self]
  intro y hy
  have : y ≠ x := fun e => h (e ▸ hy)
  simpa using this

/-- Looking up by a number in a list whose elements keep theirs. -/
theorem find?_map_number {α : Type} (number : α → Nat) (g : α → α) (n : Nat) (l : List α)
    (h : ∀ a ∈ l, number (g a) = number a) :
    (l.map g).find? (fun a => number a == n) = (l.find? (fun a => number a == n)).map g := by
  induction l with
  | nil => rfl
  | cons a as ih =>
    have ha := h a (by simp)
    have has := ih (fun b hb => h b (by simp [hb]))
    simp only [List.map_cons, List.find?_cons, ha, has]
    cases number a == n <;> rfl

/-- Looking up by a number in a list in which the elements of one number are changed. -/
theorem find?_change_number {α : Type} (number : α → Nat) (g : α → α) (m n : Nat) (l : List α)
    (h : ∀ a, number a = m → number (g a) = m) :
    (l.map (fun a => if number a == m then g a else a)).find? (fun a => number a == n) =
      if n = m then (l.find? (fun a => number a == n)).map g else l.find? (fun a => number a == n) := by
  rw [find?_map_number number _ n l]
  · split
    · rename_i e
      subst e
      rcases hf : l.find? (fun a => number a == n) with _ | a
      · rfl
      · have := List.find?_some hf
        simp_all
    · rename_i e
      rcases hf : l.find? (fun a => number a == n) with _ | a
      · rfl
      · have := List.find?_some hf
        simp_all
  · intro a _
    split
    · rename_i e
      simp_all
    · rfl

/-- A left fold whose steps all relate each state to the next. -/
theorem foldl_rel {α β : Type} (r : α → α → Prop) (refl : ∀ a, r a a) (trans : ∀ a b c, r a b → r b c → r a c)
    (f : α → β → α) (step : ∀ a b, r a (f a b)) (l : List β) (a : α) : r a (l.foldl f a) := by
  induction l generalizing a with
  | nil => exact refl a
  | cons b bs ih => exact trans _ _ _ (step a b) (ih (f a b))

end Sys2Proof.Machine
end

