-- ==== Sys2Proof/Laws/State.lean ====
section
/-! SUPPORT. What each update of one field of the state leaves in every field, and in the lookups that read one field. -/

namespace Sys2Proof.Machine

/-! ### setPower -/

@[simp] theorem State.setPower_power (x : Power) (s : State) : (s.setPower x).power = x := rfl
@[simp] theorem State.setPower_pins (x : Power) (s : State) : (s.setPower x).pins = s.pins := rfl
@[simp] theorem State.setPower_store (x : Power) (s : State) : (s.setPower x).store = s.store := rfl
@[simp] theorem State.setPower_restartPending (x : Power) (s : State) : (s.setPower x).restartPending = s.restartPending := rfl
@[simp] theorem State.setPower_params (x : Power) (s : State) : (s.setPower x).params = s.params := rfl
@[simp] theorem State.setPower_clock (x : Power) (s : State) : (s.setPower x).clock = s.clock := rfl
@[simp] theorem State.setPower_fleet (x : Power) (s : State) : (s.setPower x).fleet = s.fleet := rfl
@[simp] theorem State.setPower_lanes (x : Power) (s : State) : (s.setPower x).lanes = s.lanes := rfl
@[simp] theorem State.setPower_apron (x : Power) (s : State) : (s.setPower x).apron = s.apron := rfl
@[simp] theorem State.setPower_unplaced (x : Power) (s : State) : (s.setPower x).unplaced = s.unplaced := rfl
@[simp] theorem State.setPower_stations (x : Power) (s : State) : (s.setPower x).stations = s.stations := rfl
@[simp] theorem State.setPower_charge (x : Power) (s : State) : (s.setPower x).charge = s.charge := rfl
@[simp] theorem State.setPower_duties (x : Power) (s : State) : (s.setPower x).duties = s.duties := rfl
@[simp] theorem State.setPower_window (x : Power) (s : State) : (s.setPower x).window = s.window := rfl
@[simp] theorem State.setPower_ports (x : Power) (s : State) : (s.setPower x).ports = s.ports := rfl
@[simp] theorem State.setPower_freeCount (x : Power) (s : State) : (s.setPower x).freeCount = s.freeCount := rfl
@[simp] theorem State.setPower_pending (x : Power) (s : State) : (s.setPower x).pending = s.pending := rfl
@[simp] theorem State.setPower_lane (x : Power) (s : State) (l : LaneId) : (s.setPower x).lane l = s.lane l := rfl
@[simp] theorem State.setPower_vehicle_q (x : Power) (s : State) (f : Nat) : (s.setPower x).vehicle? f = s.vehicle? f := rfl
@[simp] theorem State.setPower_duty_q (x : Power) (s : State) (n : Nat) : (s.setPower x).duty? n = s.duty? n := rfl
@[simp] theorem State.setPower_port (x : Power) (s : State) (p : PortId) : (s.setPower x).port p = s.port p := rfl
@[simp] theorem State.setPower_unit (x : Power) (s : State) (u : UnitId) : (s.setPower x).unit u = s.unit u := rfl
@[simp] theorem State.setPower_queue (x : Power) (s : State) (st : Station) : (s.setPower x).queue st = s.queue st := rfl
@[simp] theorem State.setPower_now (x : Power) (s : State) : (s.setPower x).now = s.now := rfl

/-! ### setPins -/

@[simp] theorem State.setPins_power (x : Straps) (s : State) : (s.setPins x).power = s.power := rfl
@[simp] theorem State.setPins_pins (x : Straps) (s : State) : (s.setPins x).pins = x := rfl
@[simp] theorem State.setPins_store (x : Straps) (s : State) : (s.setPins x).store = s.store := rfl
@[simp] theorem State.setPins_restartPending (x : Straps) (s : State) : (s.setPins x).restartPending = s.restartPending := rfl
@[simp] theorem State.setPins_params (x : Straps) (s : State) : (s.setPins x).params = s.params := rfl
@[simp] theorem State.setPins_clock (x : Straps) (s : State) : (s.setPins x).clock = s.clock := rfl
@[simp] theorem State.setPins_fleet (x : Straps) (s : State) : (s.setPins x).fleet = s.fleet := rfl
@[simp] theorem State.setPins_lanes (x : Straps) (s : State) : (s.setPins x).lanes = s.lanes := rfl
@[simp] theorem State.setPins_apron (x : Straps) (s : State) : (s.setPins x).apron = s.apron := rfl
@[simp] theorem State.setPins_unplaced (x : Straps) (s : State) : (s.setPins x).unplaced = s.unplaced := rfl
@[simp] theorem State.setPins_stations (x : Straps) (s : State) : (s.setPins x).stations = s.stations := rfl
@[simp] theorem State.setPins_charge (x : Straps) (s : State) : (s.setPins x).charge = s.charge := rfl
@[simp] theorem State.setPins_duties (x : Straps) (s : State) : (s.setPins x).duties = s.duties := rfl
@[simp] theorem State.setPins_window (x : Straps) (s : State) : (s.setPins x).window = s.window := rfl
@[simp] theorem State.setPins_ports (x : Straps) (s : State) : (s.setPins x).ports = s.ports := rfl
@[simp] theorem State.setPins_freeCount (x : Straps) (s : State) : (s.setPins x).freeCount = s.freeCount := rfl
@[simp] theorem State.setPins_pending (x : Straps) (s : State) : (s.setPins x).pending = s.pending := rfl
@[simp] theorem State.setPins_lane (x : Straps) (s : State) (l : LaneId) : (s.setPins x).lane l = s.lane l := rfl
@[simp] theorem State.setPins_vehicle_q (x : Straps) (s : State) (f : Nat) : (s.setPins x).vehicle? f = s.vehicle? f := rfl
@[simp] theorem State.setPins_duty_q (x : Straps) (s : State) (n : Nat) : (s.setPins x).duty? n = s.duty? n := rfl
@[simp] theorem State.setPins_port (x : Straps) (s : State) (p : PortId) : (s.setPins x).port p = s.port p := rfl
@[simp] theorem State.setPins_unit (x : Straps) (s : State) (u : UnitId) : (s.setPins x).unit u = s.unit u := rfl
@[simp] theorem State.setPins_queue (x : Straps) (s : State) (st : Station) : (s.setPins x).queue st = s.queue st := rfl
@[simp] theorem State.setPins_now (x : Straps) (s : State) : (s.setPins x).now = s.now := rfl

/-! ### setStore -/

@[simp] theorem State.setStore_power (x : Store) (s : State) : (s.setStore x).power = s.power := rfl
@[simp] theorem State.setStore_pins (x : Store) (s : State) : (s.setStore x).pins = s.pins := rfl
@[simp] theorem State.setStore_store (x : Store) (s : State) : (s.setStore x).store = x := rfl
@[simp] theorem State.setStore_restartPending (x : Store) (s : State) : (s.setStore x).restartPending = s.restartPending := rfl
@[simp] theorem State.setStore_params (x : Store) (s : State) : (s.setStore x).params = s.params := rfl
@[simp] theorem State.setStore_clock (x : Store) (s : State) : (s.setStore x).clock = s.clock := rfl
@[simp] theorem State.setStore_fleet (x : Store) (s : State) : (s.setStore x).fleet = s.fleet := rfl
@[simp] theorem State.setStore_lanes (x : Store) (s : State) : (s.setStore x).lanes = s.lanes := rfl
@[simp] theorem State.setStore_apron (x : Store) (s : State) : (s.setStore x).apron = s.apron := rfl
@[simp] theorem State.setStore_unplaced (x : Store) (s : State) : (s.setStore x).unplaced = s.unplaced := rfl
@[simp] theorem State.setStore_stations (x : Store) (s : State) : (s.setStore x).stations = s.stations := rfl
@[simp] theorem State.setStore_charge (x : Store) (s : State) : (s.setStore x).charge = s.charge := rfl
@[simp] theorem State.setStore_duties (x : Store) (s : State) : (s.setStore x).duties = s.duties := rfl
@[simp] theorem State.setStore_window (x : Store) (s : State) : (s.setStore x).window = s.window := rfl
@[simp] theorem State.setStore_ports (x : Store) (s : State) : (s.setStore x).ports = s.ports := rfl
@[simp] theorem State.setStore_freeCount (x : Store) (s : State) : (s.setStore x).freeCount = s.freeCount := rfl
@[simp] theorem State.setStore_pending (x : Store) (s : State) : (s.setStore x).pending = s.pending := rfl
@[simp] theorem State.setStore_lane (x : Store) (s : State) (l : LaneId) : (s.setStore x).lane l = s.lane l := rfl
@[simp] theorem State.setStore_vehicle_q (x : Store) (s : State) (f : Nat) : (s.setStore x).vehicle? f = s.vehicle? f := rfl
@[simp] theorem State.setStore_duty_q (x : Store) (s : State) (n : Nat) : (s.setStore x).duty? n = s.duty? n := rfl
@[simp] theorem State.setStore_port (x : Store) (s : State) (p : PortId) : (s.setStore x).port p = s.port p := rfl
@[simp] theorem State.setStore_unit (x : Store) (s : State) (u : UnitId) : (s.setStore x).unit u = s.unit u := rfl
@[simp] theorem State.setStore_queue (x : Store) (s : State) (st : Station) : (s.setStore x).queue st = s.queue st := rfl
@[simp] theorem State.setStore_now (x : Store) (s : State) : (s.setStore x).now = s.now := rfl

/-! ### setRestartPending -/

@[simp] theorem State.setRestartPending_power (x : Bool) (s : State) : (s.setRestartPending x).power = s.power := rfl
@[simp] theorem State.setRestartPending_pins (x : Bool) (s : State) : (s.setRestartPending x).pins = s.pins := rfl
@[simp] theorem State.setRestartPending_store (x : Bool) (s : State) : (s.setRestartPending x).store = s.store := rfl
@[simp] theorem State.setRestartPending_restartPending (x : Bool) (s : State) : (s.setRestartPending x).restartPending = x := rfl
@[simp] theorem State.setRestartPending_params (x : Bool) (s : State) : (s.setRestartPending x).params = s.params := rfl
@[simp] theorem State.setRestartPending_clock (x : Bool) (s : State) : (s.setRestartPending x).clock = s.clock := rfl
@[simp] theorem State.setRestartPending_fleet (x : Bool) (s : State) : (s.setRestartPending x).fleet = s.fleet := rfl
@[simp] theorem State.setRestartPending_lanes (x : Bool) (s : State) : (s.setRestartPending x).lanes = s.lanes := rfl
@[simp] theorem State.setRestartPending_apron (x : Bool) (s : State) : (s.setRestartPending x).apron = s.apron := rfl
@[simp] theorem State.setRestartPending_unplaced (x : Bool) (s : State) : (s.setRestartPending x).unplaced = s.unplaced := rfl
@[simp] theorem State.setRestartPending_stations (x : Bool) (s : State) : (s.setRestartPending x).stations = s.stations := rfl
@[simp] theorem State.setRestartPending_charge (x : Bool) (s : State) : (s.setRestartPending x).charge = s.charge := rfl
@[simp] theorem State.setRestartPending_duties (x : Bool) (s : State) : (s.setRestartPending x).duties = s.duties := rfl
@[simp] theorem State.setRestartPending_window (x : Bool) (s : State) : (s.setRestartPending x).window = s.window := rfl
@[simp] theorem State.setRestartPending_ports (x : Bool) (s : State) : (s.setRestartPending x).ports = s.ports := rfl
@[simp] theorem State.setRestartPending_freeCount (x : Bool) (s : State) : (s.setRestartPending x).freeCount = s.freeCount := rfl
@[simp] theorem State.setRestartPending_pending (x : Bool) (s : State) : (s.setRestartPending x).pending = s.pending := rfl
@[simp] theorem State.setRestartPending_lane (x : Bool) (s : State) (l : LaneId) : (s.setRestartPending x).lane l = s.lane l := rfl
@[simp] theorem State.setRestartPending_vehicle_q (x : Bool) (s : State) (f : Nat) : (s.setRestartPending x).vehicle? f = s.vehicle? f := rfl
@[simp] theorem State.setRestartPending_duty_q (x : Bool) (s : State) (n : Nat) : (s.setRestartPending x).duty? n = s.duty? n := rfl
@[simp] theorem State.setRestartPending_port (x : Bool) (s : State) (p : PortId) : (s.setRestartPending x).port p = s.port p := rfl
@[simp] theorem State.setRestartPending_unit (x : Bool) (s : State) (u : UnitId) : (s.setRestartPending x).unit u = s.unit u := rfl
@[simp] theorem State.setRestartPending_queue (x : Bool) (s : State) (st : Station) : (s.setRestartPending x).queue st = s.queue st := rfl
@[simp] theorem State.setRestartPending_now (x : Bool) (s : State) : (s.setRestartPending x).now = s.now := rfl

/-! ### setParams -/

@[simp] theorem State.setParams_power (x : Params) (s : State) : (s.setParams x).power = s.power := rfl
@[simp] theorem State.setParams_pins (x : Params) (s : State) : (s.setParams x).pins = s.pins := rfl
@[simp] theorem State.setParams_store (x : Params) (s : State) : (s.setParams x).store = s.store := rfl
@[simp] theorem State.setParams_restartPending (x : Params) (s : State) : (s.setParams x).restartPending = s.restartPending := rfl
@[simp] theorem State.setParams_params (x : Params) (s : State) : (s.setParams x).params = x := rfl
@[simp] theorem State.setParams_clock (x : Params) (s : State) : (s.setParams x).clock = s.clock := rfl
@[simp] theorem State.setParams_fleet (x : Params) (s : State) : (s.setParams x).fleet = s.fleet := rfl
@[simp] theorem State.setParams_lanes (x : Params) (s : State) : (s.setParams x).lanes = s.lanes := rfl
@[simp] theorem State.setParams_apron (x : Params) (s : State) : (s.setParams x).apron = s.apron := rfl
@[simp] theorem State.setParams_unplaced (x : Params) (s : State) : (s.setParams x).unplaced = s.unplaced := rfl
@[simp] theorem State.setParams_stations (x : Params) (s : State) : (s.setParams x).stations = s.stations := rfl
@[simp] theorem State.setParams_charge (x : Params) (s : State) : (s.setParams x).charge = s.charge := rfl
@[simp] theorem State.setParams_duties (x : Params) (s : State) : (s.setParams x).duties = s.duties := rfl
@[simp] theorem State.setParams_window (x : Params) (s : State) : (s.setParams x).window = s.window := rfl
@[simp] theorem State.setParams_ports (x : Params) (s : State) : (s.setParams x).ports = s.ports := rfl
@[simp] theorem State.setParams_freeCount (x : Params) (s : State) : (s.setParams x).freeCount = s.freeCount := rfl
@[simp] theorem State.setParams_pending (x : Params) (s : State) : (s.setParams x).pending = s.pending := rfl
@[simp] theorem State.setParams_lane (x : Params) (s : State) (l : LaneId) : (s.setParams x).lane l = s.lane l := rfl
@[simp] theorem State.setParams_vehicle_q (x : Params) (s : State) (f : Nat) : (s.setParams x).vehicle? f = s.vehicle? f := rfl
@[simp] theorem State.setParams_duty_q (x : Params) (s : State) (n : Nat) : (s.setParams x).duty? n = s.duty? n := rfl
@[simp] theorem State.setParams_port (x : Params) (s : State) (p : PortId) : (s.setParams x).port p = s.port p := rfl
@[simp] theorem State.setParams_unit (x : Params) (s : State) (u : UnitId) : (s.setParams x).unit u = s.unit u := rfl
@[simp] theorem State.setParams_queue (x : Params) (s : State) (st : Station) : (s.setParams x).queue st = s.queue st := rfl
@[simp] theorem State.setParams_now (x : Params) (s : State) : (s.setParams x).now = s.now := rfl

/-! ### setClockFields -/

@[simp] theorem State.setClockFields_power (x : Clock) (s : State) : (s.setClockFields x).power = s.power := rfl
@[simp] theorem State.setClockFields_pins (x : Clock) (s : State) : (s.setClockFields x).pins = s.pins := rfl
@[simp] theorem State.setClockFields_store (x : Clock) (s : State) : (s.setClockFields x).store = s.store := rfl
@[simp] theorem State.setClockFields_restartPending (x : Clock) (s : State) : (s.setClockFields x).restartPending = s.restartPending := rfl
@[simp] theorem State.setClockFields_params (x : Clock) (s : State) : (s.setClockFields x).params = s.params := rfl
@[simp] theorem State.setClockFields_clock (x : Clock) (s : State) : (s.setClockFields x).clock = x := rfl
@[simp] theorem State.setClockFields_fleet (x : Clock) (s : State) : (s.setClockFields x).fleet = s.fleet := rfl
@[simp] theorem State.setClockFields_lanes (x : Clock) (s : State) : (s.setClockFields x).lanes = s.lanes := rfl
@[simp] theorem State.setClockFields_apron (x : Clock) (s : State) : (s.setClockFields x).apron = s.apron := rfl
@[simp] theorem State.setClockFields_unplaced (x : Clock) (s : State) : (s.setClockFields x).unplaced = s.unplaced := rfl
@[simp] theorem State.setClockFields_stations (x : Clock) (s : State) : (s.setClockFields x).stations = s.stations := rfl
@[simp] theorem State.setClockFields_charge (x : Clock) (s : State) : (s.setClockFields x).charge = s.charge := rfl
@[simp] theorem State.setClockFields_duties (x : Clock) (s : State) : (s.setClockFields x).duties = s.duties := rfl
@[simp] theorem State.setClockFields_window (x : Clock) (s : State) : (s.setClockFields x).window = s.window := rfl
@[simp] theorem State.setClockFields_ports (x : Clock) (s : State) : (s.setClockFields x).ports = s.ports := rfl
@[simp] theorem State.setClockFields_freeCount (x : Clock) (s : State) : (s.setClockFields x).freeCount = s.freeCount := rfl
@[simp] theorem State.setClockFields_pending (x : Clock) (s : State) : (s.setClockFields x).pending = s.pending := rfl
@[simp] theorem State.setClockFields_lane (x : Clock) (s : State) (l : LaneId) : (s.setClockFields x).lane l = s.lane l := rfl
@[simp] theorem State.setClockFields_vehicle_q (x : Clock) (s : State) (f : Nat) : (s.setClockFields x).vehicle? f = s.vehicle? f := rfl
@[simp] theorem State.setClockFields_duty_q (x : Clock) (s : State) (n : Nat) : (s.setClockFields x).duty? n = s.duty? n := rfl
@[simp] theorem State.setClockFields_port (x : Clock) (s : State) (p : PortId) : (s.setClockFields x).port p = s.port p := rfl
@[simp] theorem State.setClockFields_unit (x : Clock) (s : State) (u : UnitId) : (s.setClockFields x).unit u = s.unit u := rfl
@[simp] theorem State.setClockFields_queue (x : Clock) (s : State) (st : Station) : (s.setClockFields x).queue st = s.queue st := rfl

/-! ### setFleet -/

@[simp] theorem State.setFleet_power (x : List Vehicle) (s : State) : (s.setFleet x).power = s.power := rfl
@[simp] theorem State.setFleet_pins (x : List Vehicle) (s : State) : (s.setFleet x).pins = s.pins := rfl
@[simp] theorem State.setFleet_store (x : List Vehicle) (s : State) : (s.setFleet x).store = s.store := rfl
@[simp] theorem State.setFleet_restartPending (x : List Vehicle) (s : State) : (s.setFleet x).restartPending = s.restartPending := rfl
@[simp] theorem State.setFleet_params (x : List Vehicle) (s : State) : (s.setFleet x).params = s.params := rfl
@[simp] theorem State.setFleet_clock (x : List Vehicle) (s : State) : (s.setFleet x).clock = s.clock := rfl
@[simp] theorem State.setFleet_fleet (x : List Vehicle) (s : State) : (s.setFleet x).fleet = x := rfl
@[simp] theorem State.setFleet_lanes (x : List Vehicle) (s : State) : (s.setFleet x).lanes = s.lanes := rfl
@[simp] theorem State.setFleet_apron (x : List Vehicle) (s : State) : (s.setFleet x).apron = s.apron := rfl
@[simp] theorem State.setFleet_unplaced (x : List Vehicle) (s : State) : (s.setFleet x).unplaced = s.unplaced := rfl
@[simp] theorem State.setFleet_stations (x : List Vehicle) (s : State) : (s.setFleet x).stations = s.stations := rfl
@[simp] theorem State.setFleet_charge (x : List Vehicle) (s : State) : (s.setFleet x).charge = s.charge := rfl
@[simp] theorem State.setFleet_duties (x : List Vehicle) (s : State) : (s.setFleet x).duties = s.duties := rfl
@[simp] theorem State.setFleet_window (x : List Vehicle) (s : State) : (s.setFleet x).window = s.window := rfl
@[simp] theorem State.setFleet_ports (x : List Vehicle) (s : State) : (s.setFleet x).ports = s.ports := rfl
@[simp] theorem State.setFleet_freeCount (x : List Vehicle) (s : State) : (s.setFleet x).freeCount = s.freeCount := rfl
@[simp] theorem State.setFleet_pending (x : List Vehicle) (s : State) : (s.setFleet x).pending = s.pending := rfl
@[simp] theorem State.setFleet_lane (x : List Vehicle) (s : State) (l : LaneId) : (s.setFleet x).lane l = s.lane l := rfl
@[simp] theorem State.setFleet_duty_q (x : List Vehicle) (s : State) (n : Nat) : (s.setFleet x).duty? n = s.duty? n := rfl
@[simp] theorem State.setFleet_port (x : List Vehicle) (s : State) (p : PortId) : (s.setFleet x).port p = s.port p := rfl
@[simp] theorem State.setFleet_unit (x : List Vehicle) (s : State) (u : UnitId) : (s.setFleet x).unit u = s.unit u := rfl
@[simp] theorem State.setFleet_queue (x : List Vehicle) (s : State) (st : Station) : (s.setFleet x).queue st = s.queue st := rfl
@[simp] theorem State.setFleet_now (x : List Vehicle) (s : State) : (s.setFleet x).now = s.now := rfl

/-! ### setLanes -/

@[simp] theorem State.setLanes_power (x : Vector Lane 24) (s : State) : (s.setLanes x).power = s.power := rfl
@[simp] theorem State.setLanes_pins (x : Vector Lane 24) (s : State) : (s.setLanes x).pins = s.pins := rfl
@[simp] theorem State.setLanes_store (x : Vector Lane 24) (s : State) : (s.setLanes x).store = s.store := rfl
@[simp] theorem State.setLanes_restartPending (x : Vector Lane 24) (s : State) : (s.setLanes x).restartPending = s.restartPending := rfl
@[simp] theorem State.setLanes_params (x : Vector Lane 24) (s : State) : (s.setLanes x).params = s.params := rfl
@[simp] theorem State.setLanes_clock (x : Vector Lane 24) (s : State) : (s.setLanes x).clock = s.clock := rfl
@[simp] theorem State.setLanes_fleet (x : Vector Lane 24) (s : State) : (s.setLanes x).fleet = s.fleet := rfl
@[simp] theorem State.setLanes_lanes (x : Vector Lane 24) (s : State) : (s.setLanes x).lanes = x := rfl
@[simp] theorem State.setLanes_apron (x : Vector Lane 24) (s : State) : (s.setLanes x).apron = s.apron := rfl
@[simp] theorem State.setLanes_unplaced (x : Vector Lane 24) (s : State) : (s.setLanes x).unplaced = s.unplaced := rfl
@[simp] theorem State.setLanes_stations (x : Vector Lane 24) (s : State) : (s.setLanes x).stations = s.stations := rfl
@[simp] theorem State.setLanes_charge (x : Vector Lane 24) (s : State) : (s.setLanes x).charge = s.charge := rfl
@[simp] theorem State.setLanes_duties (x : Vector Lane 24) (s : State) : (s.setLanes x).duties = s.duties := rfl
@[simp] theorem State.setLanes_window (x : Vector Lane 24) (s : State) : (s.setLanes x).window = s.window := rfl
@[simp] theorem State.setLanes_ports (x : Vector Lane 24) (s : State) : (s.setLanes x).ports = s.ports := rfl
@[simp] theorem State.setLanes_freeCount (x : Vector Lane 24) (s : State) : (s.setLanes x).freeCount = s.freeCount := rfl
@[simp] theorem State.setLanes_pending (x : Vector Lane 24) (s : State) : (s.setLanes x).pending = s.pending := rfl
@[simp] theorem State.setLanes_vehicle_q (x : Vector Lane 24) (s : State) (f : Nat) : (s.setLanes x).vehicle? f = s.vehicle? f := rfl
@[simp] theorem State.setLanes_duty_q (x : Vector Lane 24) (s : State) (n : Nat) : (s.setLanes x).duty? n = s.duty? n := rfl
@[simp] theorem State.setLanes_port (x : Vector Lane 24) (s : State) (p : PortId) : (s.setLanes x).port p = s.port p := rfl
@[simp] theorem State.setLanes_unit (x : Vector Lane 24) (s : State) (u : UnitId) : (s.setLanes x).unit u = s.unit u := rfl
@[simp] theorem State.setLanes_queue (x : Vector Lane 24) (s : State) (st : Station) : (s.setLanes x).queue st = s.queue st := rfl
@[simp] theorem State.setLanes_now (x : Vector Lane 24) (s : State) : (s.setLanes x).now = s.now := rfl

/-! ### setApron -/

@[simp] theorem State.setApron_power (x : List Nat) (s : State) : (s.setApron x).power = s.power := rfl
@[simp] theorem State.setApron_pins (x : List Nat) (s : State) : (s.setApron x).pins = s.pins := rfl
@[simp] theorem State.setApron_store (x : List Nat) (s : State) : (s.setApron x).store = s.store := rfl
@[simp] theorem State.setApron_restartPending (x : List Nat) (s : State) : (s.setApron x).restartPending = s.restartPending := rfl
@[simp] theorem State.setApron_params (x : List Nat) (s : State) : (s.setApron x).params = s.params := rfl
@[simp] theorem State.setApron_clock (x : List Nat) (s : State) : (s.setApron x).clock = s.clock := rfl
@[simp] theorem State.setApron_fleet (x : List Nat) (s : State) : (s.setApron x).fleet = s.fleet := rfl
@[simp] theorem State.setApron_lanes (x : List Nat) (s : State) : (s.setApron x).lanes = s.lanes := rfl
@[simp] theorem State.setApron_apron (x : List Nat) (s : State) : (s.setApron x).apron = x := rfl
@[simp] theorem State.setApron_unplaced (x : List Nat) (s : State) : (s.setApron x).unplaced = s.unplaced := rfl
@[simp] theorem State.setApron_stations (x : List Nat) (s : State) : (s.setApron x).stations = s.stations := rfl
@[simp] theorem State.setApron_charge (x : List Nat) (s : State) : (s.setApron x).charge = s.charge := rfl
@[simp] theorem State.setApron_duties (x : List Nat) (s : State) : (s.setApron x).duties = s.duties := rfl
@[simp] theorem State.setApron_window (x : List Nat) (s : State) : (s.setApron x).window = s.window := rfl
@[simp] theorem State.setApron_ports (x : List Nat) (s : State) : (s.setApron x).ports = s.ports := rfl
@[simp] theorem State.setApron_freeCount (x : List Nat) (s : State) : (s.setApron x).freeCount = s.freeCount := rfl
@[simp] theorem State.setApron_pending (x : List Nat) (s : State) : (s.setApron x).pending = s.pending := rfl
@[simp] theorem State.setApron_lane (x : List Nat) (s : State) (l : LaneId) : (s.setApron x).lane l = s.lane l := rfl
@[simp] theorem State.setApron_vehicle_q (x : List Nat) (s : State) (f : Nat) : (s.setApron x).vehicle? f = s.vehicle? f := rfl
@[simp] theorem State.setApron_duty_q (x : List Nat) (s : State) (n : Nat) : (s.setApron x).duty? n = s.duty? n := rfl
@[simp] theorem State.setApron_port (x : List Nat) (s : State) (p : PortId) : (s.setApron x).port p = s.port p := rfl
@[simp] theorem State.setApron_unit (x : List Nat) (s : State) (u : UnitId) : (s.setApron x).unit u = s.unit u := rfl
@[simp] theorem State.setApron_queue (x : List Nat) (s : State) (st : Station) : (s.setApron x).queue st = s.queue st := rfl
@[simp] theorem State.setApron_now (x : List Nat) (s : State) : (s.setApron x).now = s.now := rfl

/-! ### setUnplaced -/

@[simp] theorem State.setUnplaced_power (x : List Unplaced) (s : State) : (s.setUnplaced x).power = s.power := rfl
@[simp] theorem State.setUnplaced_pins (x : List Unplaced) (s : State) : (s.setUnplaced x).pins = s.pins := rfl
@[simp] theorem State.setUnplaced_store (x : List Unplaced) (s : State) : (s.setUnplaced x).store = s.store := rfl
@[simp] theorem State.setUnplaced_restartPending (x : List Unplaced) (s : State) : (s.setUnplaced x).restartPending = s.restartPending := rfl
@[simp] theorem State.setUnplaced_params (x : List Unplaced) (s : State) : (s.setUnplaced x).params = s.params := rfl
@[simp] theorem State.setUnplaced_clock (x : List Unplaced) (s : State) : (s.setUnplaced x).clock = s.clock := rfl
@[simp] theorem State.setUnplaced_fleet (x : List Unplaced) (s : State) : (s.setUnplaced x).fleet = s.fleet := rfl
@[simp] theorem State.setUnplaced_lanes (x : List Unplaced) (s : State) : (s.setUnplaced x).lanes = s.lanes := rfl
@[simp] theorem State.setUnplaced_apron (x : List Unplaced) (s : State) : (s.setUnplaced x).apron = s.apron := rfl
@[simp] theorem State.setUnplaced_unplaced (x : List Unplaced) (s : State) : (s.setUnplaced x).unplaced = x := rfl
@[simp] theorem State.setUnplaced_stations (x : List Unplaced) (s : State) : (s.setUnplaced x).stations = s.stations := rfl
@[simp] theorem State.setUnplaced_charge (x : List Unplaced) (s : State) : (s.setUnplaced x).charge = s.charge := rfl
@[simp] theorem State.setUnplaced_duties (x : List Unplaced) (s : State) : (s.setUnplaced x).duties = s.duties := rfl
@[simp] theorem State.setUnplaced_window (x : List Unplaced) (s : State) : (s.setUnplaced x).window = s.window := rfl
@[simp] theorem State.setUnplaced_ports (x : List Unplaced) (s : State) : (s.setUnplaced x).ports = s.ports := rfl
@[simp] theorem State.setUnplaced_freeCount (x : List Unplaced) (s : State) : (s.setUnplaced x).freeCount = s.freeCount := rfl
@[simp] theorem State.setUnplaced_pending (x : List Unplaced) (s : State) : (s.setUnplaced x).pending = s.pending := rfl
@[simp] theorem State.setUnplaced_lane (x : List Unplaced) (s : State) (l : LaneId) : (s.setUnplaced x).lane l = s.lane l := rfl
@[simp] theorem State.setUnplaced_vehicle_q (x : List Unplaced) (s : State) (f : Nat) : (s.setUnplaced x).vehicle? f = s.vehicle? f := rfl
@[simp] theorem State.setUnplaced_duty_q (x : List Unplaced) (s : State) (n : Nat) : (s.setUnplaced x).duty? n = s.duty? n := rfl
@[simp] theorem State.setUnplaced_port (x : List Unplaced) (s : State) (p : PortId) : (s.setUnplaced x).port p = s.port p := rfl
@[simp] theorem State.setUnplaced_unit (x : List Unplaced) (s : State) (u : UnitId) : (s.setUnplaced x).unit u = s.unit u := rfl
@[simp] theorem State.setUnplaced_queue (x : List Unplaced) (s : State) (st : Station) : (s.setUnplaced x).queue st = s.queue st := rfl
@[simp] theorem State.setUnplaced_now (x : List Unplaced) (s : State) : (s.setUnplaced x).now = s.now := rfl

/-! ### setStations -/

@[simp] theorem State.setStations_power (x : Stations) (s : State) : (s.setStations x).power = s.power := rfl
@[simp] theorem State.setStations_pins (x : Stations) (s : State) : (s.setStations x).pins = s.pins := rfl
@[simp] theorem State.setStations_store (x : Stations) (s : State) : (s.setStations x).store = s.store := rfl
@[simp] theorem State.setStations_restartPending (x : Stations) (s : State) : (s.setStations x).restartPending = s.restartPending := rfl
@[simp] theorem State.setStations_params (x : Stations) (s : State) : (s.setStations x).params = s.params := rfl
@[simp] theorem State.setStations_clock (x : Stations) (s : State) : (s.setStations x).clock = s.clock := rfl
@[simp] theorem State.setStations_fleet (x : Stations) (s : State) : (s.setStations x).fleet = s.fleet := rfl
@[simp] theorem State.setStations_lanes (x : Stations) (s : State) : (s.setStations x).lanes = s.lanes := rfl
@[simp] theorem State.setStations_apron (x : Stations) (s : State) : (s.setStations x).apron = s.apron := rfl
@[simp] theorem State.setStations_unplaced (x : Stations) (s : State) : (s.setStations x).unplaced = s.unplaced := rfl
@[simp] theorem State.setStations_stations (x : Stations) (s : State) : (s.setStations x).stations = x := rfl
@[simp] theorem State.setStations_charge (x : Stations) (s : State) : (s.setStations x).charge = s.charge := rfl
@[simp] theorem State.setStations_duties (x : Stations) (s : State) : (s.setStations x).duties = s.duties := rfl
@[simp] theorem State.setStations_window (x : Stations) (s : State) : (s.setStations x).window = s.window := rfl
@[simp] theorem State.setStations_ports (x : Stations) (s : State) : (s.setStations x).ports = s.ports := rfl
@[simp] theorem State.setStations_freeCount (x : Stations) (s : State) : (s.setStations x).freeCount = s.freeCount := rfl
@[simp] theorem State.setStations_pending (x : Stations) (s : State) : (s.setStations x).pending = s.pending := rfl
@[simp] theorem State.setStations_lane (x : Stations) (s : State) (l : LaneId) : (s.setStations x).lane l = s.lane l := rfl
@[simp] theorem State.setStations_vehicle_q (x : Stations) (s : State) (f : Nat) : (s.setStations x).vehicle? f = s.vehicle? f := rfl
@[simp] theorem State.setStations_duty_q (x : Stations) (s : State) (n : Nat) : (s.setStations x).duty? n = s.duty? n := rfl
@[simp] theorem State.setStations_port (x : Stations) (s : State) (p : PortId) : (s.setStations x).port p = s.port p := rfl
@[simp] theorem State.setStations_now (x : Stations) (s : State) : (s.setStations x).now = s.now := rfl

/-! ### setCharge -/

@[simp] theorem State.setCharge_power (x : Charge) (s : State) : (s.setCharge x).power = s.power := rfl
@[simp] theorem State.setCharge_pins (x : Charge) (s : State) : (s.setCharge x).pins = s.pins := rfl
@[simp] theorem State.setCharge_store (x : Charge) (s : State) : (s.setCharge x).store = s.store := rfl
@[simp] theorem State.setCharge_restartPending (x : Charge) (s : State) : (s.setCharge x).restartPending = s.restartPending := rfl
@[simp] theorem State.setCharge_params (x : Charge) (s : State) : (s.setCharge x).params = s.params := rfl
@[simp] theorem State.setCharge_clock (x : Charge) (s : State) : (s.setCharge x).clock = s.clock := rfl
@[simp] theorem State.setCharge_fleet (x : Charge) (s : State) : (s.setCharge x).fleet = s.fleet := rfl
@[simp] theorem State.setCharge_lanes (x : Charge) (s : State) : (s.setCharge x).lanes = s.lanes := rfl
@[simp] theorem State.setCharge_apron (x : Charge) (s : State) : (s.setCharge x).apron = s.apron := rfl
@[simp] theorem State.setCharge_unplaced (x : Charge) (s : State) : (s.setCharge x).unplaced = s.unplaced := rfl
@[simp] theorem State.setCharge_stations (x : Charge) (s : State) : (s.setCharge x).stations = s.stations := rfl
@[simp] theorem State.setCharge_charge (x : Charge) (s : State) : (s.setCharge x).charge = x := rfl
@[simp] theorem State.setCharge_duties (x : Charge) (s : State) : (s.setCharge x).duties = s.duties := rfl
@[simp] theorem State.setCharge_window (x : Charge) (s : State) : (s.setCharge x).window = s.window := rfl
@[simp] theorem State.setCharge_ports (x : Charge) (s : State) : (s.setCharge x).ports = s.ports := rfl
@[simp] theorem State.setCharge_freeCount (x : Charge) (s : State) : (s.setCharge x).freeCount = s.freeCount := rfl
@[simp] theorem State.setCharge_pending (x : Charge) (s : State) : (s.setCharge x).pending = s.pending := rfl
@[simp] theorem State.setCharge_lane (x : Charge) (s : State) (l : LaneId) : (s.setCharge x).lane l = s.lane l := rfl
@[simp] theorem State.setCharge_vehicle_q (x : Charge) (s : State) (f : Nat) : (s.setCharge x).vehicle? f = s.vehicle? f := rfl
@[simp] theorem State.setCharge_duty_q (x : Charge) (s : State) (n : Nat) : (s.setCharge x).duty? n = s.duty? n := rfl
@[simp] theorem State.setCharge_port (x : Charge) (s : State) (p : PortId) : (s.setCharge x).port p = s.port p := rfl
@[simp] theorem State.setCharge_unit (x : Charge) (s : State) (u : UnitId) : (s.setCharge x).unit u = s.unit u := rfl
@[simp] theorem State.setCharge_queue (x : Charge) (s : State) (st : Station) : (s.setCharge x).queue st = s.queue st := rfl
@[simp] theorem State.setCharge_now (x : Charge) (s : State) : (s.setCharge x).now = s.now := rfl

/-! ### setDuties -/

@[simp] theorem State.setDuties_power (x : List Duty) (s : State) : (s.setDuties x).power = s.power := rfl
@[simp] theorem State.setDuties_pins (x : List Duty) (s : State) : (s.setDuties x).pins = s.pins := rfl
@[simp] theorem State.setDuties_store (x : List Duty) (s : State) : (s.setDuties x).store = s.store := rfl
@[simp] theorem State.setDuties_restartPending (x : List Duty) (s : State) : (s.setDuties x).restartPending = s.restartPending := rfl
@[simp] theorem State.setDuties_params (x : List Duty) (s : State) : (s.setDuties x).params = s.params := rfl
@[simp] theorem State.setDuties_clock (x : List Duty) (s : State) : (s.setDuties x).clock = s.clock := rfl
@[simp] theorem State.setDuties_fleet (x : List Duty) (s : State) : (s.setDuties x).fleet = s.fleet := rfl
@[simp] theorem State.setDuties_lanes (x : List Duty) (s : State) : (s.setDuties x).lanes = s.lanes := rfl
@[simp] theorem State.setDuties_apron (x : List Duty) (s : State) : (s.setDuties x).apron = s.apron := rfl
@[simp] theorem State.setDuties_unplaced (x : List Duty) (s : State) : (s.setDuties x).unplaced = s.unplaced := rfl
@[simp] theorem State.setDuties_stations (x : List Duty) (s : State) : (s.setDuties x).stations = s.stations := rfl
@[simp] theorem State.setDuties_charge (x : List Duty) (s : State) : (s.setDuties x).charge = s.charge := rfl
@[simp] theorem State.setDuties_duties (x : List Duty) (s : State) : (s.setDuties x).duties = x := rfl
@[simp] theorem State.setDuties_window (x : List Duty) (s : State) : (s.setDuties x).window = s.window := rfl
@[simp] theorem State.setDuties_ports (x : List Duty) (s : State) : (s.setDuties x).ports = s.ports := rfl
@[simp] theorem State.setDuties_freeCount (x : List Duty) (s : State) : (s.setDuties x).freeCount = s.freeCount := rfl
@[simp] theorem State.setDuties_pending (x : List Duty) (s : State) : (s.setDuties x).pending = s.pending := rfl
@[simp] theorem State.setDuties_lane (x : List Duty) (s : State) (l : LaneId) : (s.setDuties x).lane l = s.lane l := rfl
@[simp] theorem State.setDuties_vehicle_q (x : List Duty) (s : State) (f : Nat) : (s.setDuties x).vehicle? f = s.vehicle? f := rfl
@[simp] theorem State.setDuties_port (x : List Duty) (s : State) (p : PortId) : (s.setDuties x).port p = s.port p := rfl
@[simp] theorem State.setDuties_unit (x : List Duty) (s : State) (u : UnitId) : (s.setDuties x).unit u = s.unit u := rfl
@[simp] theorem State.setDuties_queue (x : List Duty) (s : State) (st : Station) : (s.setDuties x).queue st = s.queue st := rfl
@[simp] theorem State.setDuties_now (x : List Duty) (s : State) : (s.setDuties x).now = s.now := rfl

/-! ### setWindow -/

@[simp] theorem State.setWindow_power (x : List WindowEntry) (s : State) : (s.setWindow x).power = s.power := rfl
@[simp] theorem State.setWindow_pins (x : List WindowEntry) (s : State) : (s.setWindow x).pins = s.pins := rfl
@[simp] theorem State.setWindow_store (x : List WindowEntry) (s : State) : (s.setWindow x).store = s.store := rfl
@[simp] theorem State.setWindow_restartPending (x : List WindowEntry) (s : State) : (s.setWindow x).restartPending = s.restartPending := rfl
@[simp] theorem State.setWindow_params (x : List WindowEntry) (s : State) : (s.setWindow x).params = s.params := rfl
@[simp] theorem State.setWindow_clock (x : List WindowEntry) (s : State) : (s.setWindow x).clock = s.clock := rfl
@[simp] theorem State.setWindow_fleet (x : List WindowEntry) (s : State) : (s.setWindow x).fleet = s.fleet := rfl
@[simp] theorem State.setWindow_lanes (x : List WindowEntry) (s : State) : (s.setWindow x).lanes = s.lanes := rfl
@[simp] theorem State.setWindow_apron (x : List WindowEntry) (s : State) : (s.setWindow x).apron = s.apron := rfl
@[simp] theorem State.setWindow_unplaced (x : List WindowEntry) (s : State) : (s.setWindow x).unplaced = s.unplaced := rfl
@[simp] theorem State.setWindow_stations (x : List WindowEntry) (s : State) : (s.setWindow x).stations = s.stations := rfl
@[simp] theorem State.setWindow_charge (x : List WindowEntry) (s : State) : (s.setWindow x).charge = s.charge := rfl
@[simp] theorem State.setWindow_duties (x : List WindowEntry) (s : State) : (s.setWindow x).duties = s.duties := rfl
@[simp] theorem State.setWindow_window (x : List WindowEntry) (s : State) : (s.setWindow x).window = x := rfl
@[simp] theorem State.setWindow_ports (x : List WindowEntry) (s : State) : (s.setWindow x).ports = s.ports := rfl
@[simp] theorem State.setWindow_freeCount (x : List WindowEntry) (s : State) : (s.setWindow x).freeCount = s.freeCount := rfl
@[simp] theorem State.setWindow_pending (x : List WindowEntry) (s : State) : (s.setWindow x).pending = s.pending := rfl
@[simp] theorem State.setWindow_lane (x : List WindowEntry) (s : State) (l : LaneId) : (s.setWindow x).lane l = s.lane l := rfl
@[simp] theorem State.setWindow_vehicle_q (x : List WindowEntry) (s : State) (f : Nat) : (s.setWindow x).vehicle? f = s.vehicle? f := rfl
@[simp] theorem State.setWindow_duty_q (x : List WindowEntry) (s : State) (n : Nat) : (s.setWindow x).duty? n = s.duty? n := rfl
@[simp] theorem State.setWindow_port (x : List WindowEntry) (s : State) (p : PortId) : (s.setWindow x).port p = s.port p := rfl
@[simp] theorem State.setWindow_unit (x : List WindowEntry) (s : State) (u : UnitId) : (s.setWindow x).unit u = s.unit u := rfl
@[simp] theorem State.setWindow_queue (x : List WindowEntry) (s : State) (st : Station) : (s.setWindow x).queue st = s.queue st := rfl
@[simp] theorem State.setWindow_now (x : List WindowEntry) (s : State) : (s.setWindow x).now = s.now := rfl

/-! ### setPorts -/

@[simp] theorem State.setPorts_power (x : Ports) (s : State) : (s.setPorts x).power = s.power := rfl
@[simp] theorem State.setPorts_pins (x : Ports) (s : State) : (s.setPorts x).pins = s.pins := rfl
@[simp] theorem State.setPorts_store (x : Ports) (s : State) : (s.setPorts x).store = s.store := rfl
@[simp] theorem State.setPorts_restartPending (x : Ports) (s : State) : (s.setPorts x).restartPending = s.restartPending := rfl
@[simp] theorem State.setPorts_params (x : Ports) (s : State) : (s.setPorts x).params = s.params := rfl
@[simp] theorem State.setPorts_clock (x : Ports) (s : State) : (s.setPorts x).clock = s.clock := rfl
@[simp] theorem State.setPorts_fleet (x : Ports) (s : State) : (s.setPorts x).fleet = s.fleet := rfl
@[simp] theorem State.setPorts_lanes (x : Ports) (s : State) : (s.setPorts x).lanes = s.lanes := rfl
@[simp] theorem State.setPorts_apron (x : Ports) (s : State) : (s.setPorts x).apron = s.apron := rfl
@[simp] theorem State.setPorts_unplaced (x : Ports) (s : State) : (s.setPorts x).unplaced = s.unplaced := rfl
@[simp] theorem State.setPorts_stations (x : Ports) (s : State) : (s.setPorts x).stations = s.stations := rfl
@[simp] theorem State.setPorts_charge (x : Ports) (s : State) : (s.setPorts x).charge = s.charge := rfl
@[simp] theorem State.setPorts_duties (x : Ports) (s : State) : (s.setPorts x).duties = s.duties := rfl
@[simp] theorem State.setPorts_window (x : Ports) (s : State) : (s.setPorts x).window = s.window := rfl
@[simp] theorem State.setPorts_ports (x : Ports) (s : State) : (s.setPorts x).ports = x := rfl
@[simp] theorem State.setPorts_freeCount (x : Ports) (s : State) : (s.setPorts x).freeCount = s.freeCount := rfl
@[simp] theorem State.setPorts_pending (x : Ports) (s : State) : (s.setPorts x).pending = s.pending := rfl
@[simp] theorem State.setPorts_lane (x : Ports) (s : State) (l : LaneId) : (s.setPorts x).lane l = s.lane l := rfl
@[simp] theorem State.setPorts_vehicle_q (x : Ports) (s : State) (f : Nat) : (s.setPorts x).vehicle? f = s.vehicle? f := rfl
@[simp] theorem State.setPorts_duty_q (x : Ports) (s : State) (n : Nat) : (s.setPorts x).duty? n = s.duty? n := rfl
@[simp] theorem State.setPorts_unit (x : Ports) (s : State) (u : UnitId) : (s.setPorts x).unit u = s.unit u := rfl
@[simp] theorem State.setPorts_queue (x : Ports) (s : State) (st : Station) : (s.setPorts x).queue st = s.queue st := rfl
@[simp] theorem State.setPorts_now (x : Ports) (s : State) : (s.setPorts x).now = s.now := rfl

/-! ### setFreeCount -/

@[simp] theorem State.setFreeCount_power (x : Nat) (s : State) : (s.setFreeCount x).power = s.power := rfl
@[simp] theorem State.setFreeCount_pins (x : Nat) (s : State) : (s.setFreeCount x).pins = s.pins := rfl
@[simp] theorem State.setFreeCount_store (x : Nat) (s : State) : (s.setFreeCount x).store = s.store := rfl
@[simp] theorem State.setFreeCount_restartPending (x : Nat) (s : State) : (s.setFreeCount x).restartPending = s.restartPending := rfl
@[simp] theorem State.setFreeCount_params (x : Nat) (s : State) : (s.setFreeCount x).params = s.params := rfl
@[simp] theorem State.setFreeCount_clock (x : Nat) (s : State) : (s.setFreeCount x).clock = s.clock := rfl
@[simp] theorem State.setFreeCount_fleet (x : Nat) (s : State) : (s.setFreeCount x).fleet = s.fleet := rfl
@[simp] theorem State.setFreeCount_lanes (x : Nat) (s : State) : (s.setFreeCount x).lanes = s.lanes := rfl
@[simp] theorem State.setFreeCount_apron (x : Nat) (s : State) : (s.setFreeCount x).apron = s.apron := rfl
@[simp] theorem State.setFreeCount_unplaced (x : Nat) (s : State) : (s.setFreeCount x).unplaced = s.unplaced := rfl
@[simp] theorem State.setFreeCount_stations (x : Nat) (s : State) : (s.setFreeCount x).stations = s.stations := rfl
@[simp] theorem State.setFreeCount_charge (x : Nat) (s : State) : (s.setFreeCount x).charge = s.charge := rfl
@[simp] theorem State.setFreeCount_duties (x : Nat) (s : State) : (s.setFreeCount x).duties = s.duties := rfl
@[simp] theorem State.setFreeCount_window (x : Nat) (s : State) : (s.setFreeCount x).window = s.window := rfl
@[simp] theorem State.setFreeCount_ports (x : Nat) (s : State) : (s.setFreeCount x).ports = s.ports := rfl
@[simp] theorem State.setFreeCount_freeCount (x : Nat) (s : State) : (s.setFreeCount x).freeCount = x := rfl
@[simp] theorem State.setFreeCount_pending (x : Nat) (s : State) : (s.setFreeCount x).pending = s.pending := rfl
@[simp] theorem State.setFreeCount_lane (x : Nat) (s : State) (l : LaneId) : (s.setFreeCount x).lane l = s.lane l := rfl
@[simp] theorem State.setFreeCount_vehicle_q (x : Nat) (s : State) (f : Nat) : (s.setFreeCount x).vehicle? f = s.vehicle? f := rfl
@[simp] theorem State.setFreeCount_duty_q (x : Nat) (s : State) (n : Nat) : (s.setFreeCount x).duty? n = s.duty? n := rfl
@[simp] theorem State.setFreeCount_port (x : Nat) (s : State) (p : PortId) : (s.setFreeCount x).port p = s.port p := rfl
@[simp] theorem State.setFreeCount_unit (x : Nat) (s : State) (u : UnitId) : (s.setFreeCount x).unit u = s.unit u := rfl
@[simp] theorem State.setFreeCount_queue (x : Nat) (s : State) (st : Station) : (s.setFreeCount x).queue st = s.queue st := rfl
@[simp] theorem State.setFreeCount_now (x : Nat) (s : State) : (s.setFreeCount x).now = s.now := rfl

/-! ### setPending -/

@[simp] theorem State.setPending_power (x : List Instr) (s : State) : (s.setPending x).power = s.power := rfl
@[simp] theorem State.setPending_pins (x : List Instr) (s : State) : (s.setPending x).pins = s.pins := rfl
@[simp] theorem State.setPending_store (x : List Instr) (s : State) : (s.setPending x).store = s.store := rfl
@[simp] theorem State.setPending_restartPending (x : List Instr) (s : State) : (s.setPending x).restartPending = s.restartPending := rfl
@[simp] theorem State.setPending_params (x : List Instr) (s : State) : (s.setPending x).params = s.params := rfl
@[simp] theorem State.setPending_clock (x : List Instr) (s : State) : (s.setPending x).clock = s.clock := rfl
@[simp] theorem State.setPending_fleet (x : List Instr) (s : State) : (s.setPending x).fleet = s.fleet := rfl
@[simp] theorem State.setPending_lanes (x : List Instr) (s : State) : (s.setPending x).lanes = s.lanes := rfl
@[simp] theorem State.setPending_apron (x : List Instr) (s : State) : (s.setPending x).apron = s.apron := rfl
@[simp] theorem State.setPending_unplaced (x : List Instr) (s : State) : (s.setPending x).unplaced = s.unplaced := rfl
@[simp] theorem State.setPending_stations (x : List Instr) (s : State) : (s.setPending x).stations = s.stations := rfl
@[simp] theorem State.setPending_charge (x : List Instr) (s : State) : (s.setPending x).charge = s.charge := rfl
@[simp] theorem State.setPending_duties (x : List Instr) (s : State) : (s.setPending x).duties = s.duties := rfl
@[simp] theorem State.setPending_window (x : List Instr) (s : State) : (s.setPending x).window = s.window := rfl
@[simp] theorem State.setPending_ports (x : List Instr) (s : State) : (s.setPending x).ports = s.ports := rfl
@[simp] theorem State.setPending_freeCount (x : List Instr) (s : State) : (s.setPending x).freeCount = s.freeCount := rfl
@[simp] theorem State.setPending_pending (x : List Instr) (s : State) : (s.setPending x).pending = x := rfl
@[simp] theorem State.setPending_lane (x : List Instr) (s : State) (l : LaneId) : (s.setPending x).lane l = s.lane l := rfl
@[simp] theorem State.setPending_vehicle_q (x : List Instr) (s : State) (f : Nat) : (s.setPending x).vehicle? f = s.vehicle? f := rfl
@[simp] theorem State.setPending_duty_q (x : List Instr) (s : State) (n : Nat) : (s.setPending x).duty? n = s.duty? n := rfl
@[simp] theorem State.setPending_port (x : List Instr) (s : State) (p : PortId) : (s.setPending x).port p = s.port p := rfl
@[simp] theorem State.setPending_unit (x : List Instr) (s : State) (u : UnitId) : (s.setPending x).unit u = s.unit u := rfl
@[simp] theorem State.setPending_queue (x : List Instr) (s : State) (st : Station) : (s.setPending x).queue st = s.queue st := rfl
@[simp] theorem State.setPending_now (x : List Instr) (s : State) : (s.setPending x).now = s.now := rfl

/-! ### The event record -/

@[simp] theorem Ev.start_s (s : State) : (Ev.start s).s = s := rfl
@[simp] theorem Ev.start_slot (s : State) : (Ev.start s).slot = false := rfl
@[simp] theorem Ev.start_sweep (s : State) : (Ev.start s).sweep = false := rfl
@[simp] theorem Ev.start_trigger (s : State) : (Ev.start s).trigger = false := rfl
@[simp] theorem Ev.map_s (g : State → State) (e : Ev) : (e.map g).s = g e.s := rfl
@[simp] theorem Ev.map_slot (g : State → State) (e : Ev) : (e.map g).slot = e.slot := rfl
@[simp] theorem Ev.map_sweep (g : State → State) (e : Ev) : (e.map g).sweep = e.sweep := rfl
@[simp] theorem Ev.map_trigger (g : State → State) (e : Ev) : (e.map g).trigger = e.trigger := rfl
@[simp] theorem Ev.wantSweep_s (b : Bool) (e : Ev) : (e.wantSweep b).s = e.s := rfl
@[simp] theorem Ev.wantSweep_slot (b : Bool) (e : Ev) : (e.wantSweep b).slot = e.slot := rfl
@[simp] theorem Ev.wantSweep_sweep (b : Bool) (e : Ev) : (e.wantSweep b).sweep = (e.sweep || b) := rfl
@[simp] theorem Ev.wantSweep_trigger (b : Bool) (e : Ev) : (e.wantSweep b).trigger = e.trigger := rfl
@[simp] theorem Ev.wantPass_s (b : Bool) (e : Ev) : (e.wantPass b).s = e.s := rfl
@[simp] theorem Ev.wantPass_slot (b : Bool) (e : Ev) : (e.wantPass b).slot = e.slot := rfl
@[simp] theorem Ev.wantPass_sweep (b : Bool) (e : Ev) : (e.wantPass b).sweep = e.sweep := rfl
@[simp] theorem Ev.wantPass_trigger (b : Bool) (e : Ev) : (e.wantPass b).trigger = (e.trigger || b) := rfl
@[simp] theorem Ev.freeSlot_s (e : Ev) : e.freeSlot.s = e.s := rfl
@[simp] theorem Ev.freeSlot_slot (e : Ev) : e.freeSlot.slot = true := rfl
@[simp] theorem Ev.freeSlot_sweep (e : Ev) : e.freeSlot.sweep = e.sweep := rfl
@[simp] theorem Ev.freeSlot_trigger (e : Ev) : e.freeSlot.trigger = e.trigger := rfl

end Sys2Proof.Machine
end

