-- ==== Sys2Proof/Laws/Ops.lean ====
section
/-! SUPPORT. What a lookup gives after each shared operation on one record, one lane, one unit or one port. -/

namespace Sys2Proof.Machine

/-! ### Vehicles -/

theorem State.vehicle?_number {s : State} {f : Nat} {v : Vehicle} (h : s.vehicle? f = some v) : v.number = f := by
  simpa using List.find?_some h

theorem State.vehicle?_mem {s : State} {f : Nat} {v : Vehicle} (h : s.vehicle? f = some v) : v ∈ s.fleet :=
  List.mem_of_find?_eq_some h

/-- The lookup after a change of one record that keeps its number. -/
theorem State.vehicle?_modVehicle (f g : Nat) (x : Vehicle → Vehicle) (s : State)
    (h : ∀ v, v.number = f → (x v).number = f) :
    (s.modVehicle f x).vehicle? g = if g = f then (s.vehicle? g).map x else s.vehicle? g :=
  find?_change_number Vehicle.number x f g s.fleet h

theorem State.vehicle?_modVehicle_self (f : Nat) (x : Vehicle → Vehicle) (s : State)
    (h : ∀ v, v.number = f → (x v).number = f) : (s.modVehicle f x).vehicle? f = (s.vehicle? f).map x := by
  rw [State.vehicle?_modVehicle f f x s h, if_pos rfl]

theorem State.vehicle?_modVehicle_other (f g : Nat) (x : Vehicle → Vehicle) (s : State)
    (h : ∀ v, v.number = f → (x v).number = f) (hg : g ≠ f) : (s.modVehicle f x).vehicle? g = s.vehicle? g := by
  rw [State.vehicle?_modVehicle f g x s h, if_neg hg]

theorem State.vehicle?_mapFleet (g : Nat) (x : Vehicle → Vehicle) (s : State) (h : ∀ v, (x v).number = v.number) :
    (s.mapFleet x).vehicle? g = (s.vehicle? g).map x :=
  find?_map_number Vehicle.number x g s.fleet (fun v _ => h v)

@[simp] theorem State.modVehicle_lane (f : Nat) (x : Vehicle → Vehicle) (s : State) (l : LaneId) :
    (s.modVehicle f x).lane l = s.lane l := rfl
@[simp] theorem State.modVehicle_unit (f : Nat) (x : Vehicle → Vehicle) (s : State) (u : UnitId) :
    (s.modVehicle f x).unit u = s.unit u := rfl
@[simp] theorem State.modVehicle_queue (f : Nat) (x : Vehicle → Vehicle) (s : State) (st : Station) :
    (s.modVehicle f x).queue st = s.queue st := rfl
@[simp] theorem State.modVehicle_duty? (f : Nat) (x : Vehicle → Vehicle) (s : State) (n : Nat) :
    (s.modVehicle f x).duty? n = s.duty? n := rfl
@[simp] theorem State.modVehicle_port (f : Nat) (x : Vehicle → Vehicle) (s : State) (p : PortId) :
    (s.modVehicle f x).port p = s.port p := rfl

theorem State.modVehicle_numbers (f : Nat) (x : Vehicle → Vehicle) (s : State)
    (h : ∀ v, v.number = f → (x v).number = f) :
    (s.modVehicle f x).fleet.map Vehicle.number = s.fleet.map Vehicle.number := by
  simp only [State.modVehicle, State.setFleet, List.map_map]
  refine List.map_congr_left fun v _ => ?_
  simp only [Function.comp_apply]
  split
  · rename_i e
    have e : v.number = f := by simpa using e
    rw [h v e, e]
  · rfl

/-! ### Duties -/

theorem State.duty?_number {s : State} {n : Nat} {d : Duty} (h : s.duty? n = some d) : d.number = n := by
  simpa using List.find?_some h

theorem State.duty?_mem {s : State} {n : Nat} {d : Duty} (h : s.duty? n = some d) : d ∈ s.duties :=
  List.mem_of_find?_eq_some h

/-- The lookup after a change of one record that keeps its number. -/
theorem State.duty?_modDuty (n m : Nat) (x : Duty → Duty) (s : State) (h : ∀ d, d.number = n → (x d).number = n) :
    (s.modDuty n x).duty? m = if m = n then (s.duty? m).map x else s.duty? m :=
  find?_change_number Duty.number x n m s.duties h

theorem State.duty?_modDuty_self (n : Nat) (x : Duty → Duty) (s : State) (h : ∀ d, d.number = n → (x d).number = n) :
    (s.modDuty n x).duty? n = (s.duty? n).map x := by
  rw [State.duty?_modDuty n n x s h, if_pos rfl]

theorem State.duty?_modDuty_other (n m : Nat) (x : Duty → Duty) (s : State) (h : ∀ d, d.number = n → (x d).number = n)
    (hm : m ≠ n) : (s.modDuty n x).duty? m = s.duty? m := by
  rw [State.duty?_modDuty n m x s h, if_neg hm]

@[simp] theorem State.modDuty_lane (n : Nat) (x : Duty → Duty) (s : State) (l : LaneId) :
    (s.modDuty n x).lane l = s.lane l := rfl
@[simp] theorem State.modDuty_vehicle? (n : Nat) (x : Duty → Duty) (s : State) (f : Nat) :
    (s.modDuty n x).vehicle? f = s.vehicle? f := rfl
@[simp] theorem State.modDuty_port (n : Nat) (x : Duty → Duty) (s : State) (p : PortId) :
    (s.modDuty n x).port p = s.port p := rfl

/-! ### Lanes -/

@[simp] theorem State.lane_modLane_self (l : LaneId) (g : Lane → Lane) (s : State) :
    (s.modLane l g).lane l = g (s.lane l) := by
  simp [State.modLane, State.lane, State.setLanes]

theorem State.lane_modLane_other (l r : LaneId) (g : Lane → Lane) (s : State) (h : r ≠ l) :
    (s.modLane l g).lane r = s.lane r := by
  simp only [State.modLane, State.lane, State.setLanes, Fin.getElem_fin]
  exact Vector.getElem_set_ne _ _ (by simpa [Fin.ext_iff] using fun e => h (Fin.ext e.symm))

theorem State.lane_modLane (l r : LaneId) (g : Lane → Lane) (s : State) :
    (s.modLane l g).lane r = if r = l then g (s.lane l) else s.lane r := by
  split
  · rename_i e
    rw [e, State.lane_modLane_self]
  · rename_i e
    exact State.lane_modLane_other l r g s e

@[simp] theorem State.modLane_vehicle? (l : LaneId) (g : Lane → Lane) (s : State) (f : Nat) :
    (s.modLane l g).vehicle? f = s.vehicle? f := rfl
@[simp] theorem State.modLane_duty? (l : LaneId) (g : Lane → Lane) (s : State) (n : Nat) :
    (s.modLane l g).duty? n = s.duty? n := rfl
@[simp] theorem State.modLane_port (l : LaneId) (g : Lane → Lane) (s : State) (p : PortId) :
    (s.modLane l g).port p = s.port p := rfl

/-- Who stands in which parked list once a vehicle has joined a lane (R27). -/
theorem State.mem_parked_joinLane (l r : LaneId) (f g : Nat) (s : State) :
    g ∈ ((s.joinLane l f).lane r).parked ↔ (g ∈ (s.lane r).parked ∨ (r = l ∧ g = f)) := by
  simp only [State.joinLane, State.modVehicle_lane, State.lane_modLane]
  split
  · rename_i e
    subst e
    split <;> simp [or_comm]
  · rename_i e
    simp [e]

/-- Who stands in which parked list once a vehicle has left one (R27). -/
theorem State.mem_parked_unpark (l r : LaneId) (f g : Nat) (s : State) :
    g ∈ ((s.unpark l f).lane r).parked ↔ g ∈ (s.lane r).parked ∧ ¬ (r = l ∧ g = f) := by
  simp only [State.unpark, State.lane_modLane]
  split
  · rename_i e
    subst e
    simp [mem_without]
  · rename_i e
    simp [e]

/-- A lane number names a lane exactly from 1 to 24 (R24). -/
theorem laneOf?_eq_some (n : Nat) (l : LaneId) : laneOf? n = some l ↔ n = laneNumber l := by
  simp only [laneOf?, laneNumber]
  split
  · rename_i h
    simp only [Option.some.injEq, Fin.ext_iff]
    omega
  · rename_i h
    have := l.isLt
    simp only [reduceCtorEq, false_iff]
    omega

/-! ### Units -/

@[simp] theorem State.unit_setUnit_self (u : UnitId) (r : StationUnit) (s : State) : (s.setUnit u r).unit u = r := by
  cases u <;> rfl

theorem State.unit_setUnit_other (u w : UnitId) (r : StationUnit) (s : State) (h : w ≠ u) :
    (s.setUnit u r).unit w = s.unit w := by
  cases u <;> cases w <;> first | rfl | exact absurd rfl h

@[simp] theorem State.queue_setUnit (u : UnitId) (r : StationUnit) (s : State) (st : Station) :
    (s.setUnit u r).queue st = s.queue st := by
  cases u <;> cases st <;> rfl

@[simp] theorem State.setUnit_lane (u : UnitId) (r : StationUnit) (s : State) (l : LaneId) :
    (s.setUnit u r).lane l = s.lane l := rfl
@[simp] theorem State.setUnit_vehicle? (u : UnitId) (r : StationUnit) (s : State) (f : Nat) :
    (s.setUnit u r).vehicle? f = s.vehicle? f := rfl
@[simp] theorem State.setUnit_port (u : UnitId) (r : StationUnit) (s : State) (p : PortId) :
    (s.setUnit u r).port p = s.port p := rfl

/-- Who stands in which queue once a vehicle has left one (R71). -/
theorem State.mem_queue_leaveQueue (st r : Station) (f g : Nat) (s : State) :
    g ∈ (s.leaveQueue st f).queue r ↔ g ∈ s.queue r ∧ ¬ (r = st ∧ g = f) := by
  cases st <;> cases r <;>
    simp only [State.leaveQueue, State.queue, State.setStations, List.mem_map, List.mem_filter, mem_without,
      reduceCtorEq, true_and, false_and, not_false_eq_true, and_true]
  constructor
  · rintro ⟨e, ⟨he, hf⟩, rfl⟩
    exact ⟨⟨e, he, rfl⟩, by simpa using hf⟩
  · rintro ⟨⟨e, he, rfl⟩, hf⟩
    exact ⟨e, ⟨he, by simpa using hf⟩, rfl⟩

theorem mem_joinFuel (e x : FuelEntry) (q : List FuelEntry) : x ∈ joinFuel e q ↔ x = e ∨ x ∈ q := by
  simp only [joinFuel]
  split
  · have h : x ∈ q ↔ x ∈ q.takeWhile FuelEntry.high ∨ x ∈ q.dropWhile FuelEntry.high := by
      rw [← List.mem_append, List.takeWhile_append_dropWhile]
    rw [List.mem_append, List.mem_cons, h]
    tauto
  · simp [or_comm]

/-- Who stands in which queue once a vehicle has joined one (R69, R70). -/
theorem State.mem_queue_enqueue (st r : Station) (f g : Nat) (s : State) :
    g ∈ (s.enqueue st f).queue r ↔ g ∈ s.queue r ∨ (r = st ∧ g = f) := by
  cases st <;> cases r <;>
    simp only [State.enqueue, State.queue, State.setStations, List.mem_map, List.mem_append, List.mem_singleton,
      mem_joinFuel, reduceCtorEq, true_and, false_and, or_false]
  constructor
  · rintro ⟨e, rfl | he, rfl⟩
    · exact .inr rfl
    · exact .inl ⟨e, he, rfl⟩
  · rintro (⟨e, he, rfl⟩ | rfl)
    · exact ⟨e, .inr he, rfl⟩
    · exact ⟨_, .inl rfl, rfl⟩

/-! ### Ports -/

@[simp] theorem State.port_modPort_self (p : PortId) (g : Port → Port) (s : State) :
    (s.modPort p g).port p = g (s.port p) := by
  cases p <;> rfl

theorem State.port_modPort_other (p q : PortId) (g : Port → Port) (s : State) (h : q ≠ p) :
    (s.modPort p g).port q = s.port q := by
  cases p <;> cases q <;> first | rfl | exact absurd rfl h

theorem State.port_modPort (p q : PortId) (g : Port → Port) (s : State) :
    (s.modPort p g).port q = if q = p then g (s.port q) else s.port q := by
  split
  · rename_i e
    rw [e, State.port_modPort_self]
  · rename_i e
    exact State.port_modPort_other p q g s e

/-- Posting changes the ports alone (R167). -/
theorem State.post_eq (ports : List PortId) (n : Notice) (s : State) :
    s.post ports n = { s with ports := (s.post ports n).ports } := by
  simp only [State.post]
  induction ports generalizing s with
  | nil => rfl
  | cons p ps ih =>
    rw [List.foldl_cons, ih]
    rfl

@[simp] theorem State.post_lane (ports : List PortId) (n : Notice) (s : State) (l : LaneId) :
    (s.post ports n).lane l = s.lane l := by rw [State.post_eq]; rfl
@[simp] theorem State.post_vehicle? (ports : List PortId) (n : Notice) (s : State) (f : Nat) :
    (s.post ports n).vehicle? f = s.vehicle? f := by rw [State.post_eq]; rfl
@[simp] theorem State.post_duty? (ports : List PortId) (n : Notice) (s : State) (m : Nat) :
    (s.post ports n).duty? m = s.duty? m := by rw [State.post_eq]; rfl
@[simp] theorem State.post_unit (ports : List PortId) (n : Notice) (s : State) (u : UnitId) :
    (s.post ports n).unit u = s.unit u := by rw [State.post_eq]; rfl
@[simp] theorem State.post_queue (ports : List PortId) (n : Notice) (s : State) (st : Station) :
    (s.post ports n).queue st = s.queue st := by rw [State.post_eq]; rfl

/-! ### Resets (R23, R46, R66, R88, R114, R132, R149, R171, R179) -/

@[simp] theorem State.emptied_lane (s : State) (l : LaneId) : s.emptied.lane l = ⟨(s.lane l).defn, [], []⟩ := by
  simp [State.lane, State.emptied, emptyLanes]
@[simp] theorem State.restarted_lane (s : State) (l : LaneId) : s.restarted.lane l = ⟨(s.lane l).defn, [], []⟩ :=
  State.emptied_lane s l
@[simp] theorem State.restarted_fleet (s : State) : s.restarted.fleet = s.fleet.map Vehicle.restarted := rfl
@[simp] theorem State.restarted_duties (s : State) : s.restarted.duties = [] := rfl
@[simp] theorem State.restarted_window (s : State) : s.restarted.window = [] := rfl
@[simp] theorem State.restarted_apron (s : State) : s.restarted.apron = [] := rfl
@[simp] theorem State.restarted_unplaced (s : State) : s.restarted.unplaced = [] := rfl
@[simp] theorem State.restarted_stations (s : State) : s.restarted.stations = Stations.reset := rfl
@[simp] theorem State.restarted_ports (s : State) : s.restarted.ports = Ports.reset := rfl
@[simp] theorem State.restarted_charge (s : State) :
    s.restarted.charge = { s.charge with pass := none, rerun := false } := rfl
@[simp] theorem State.restarted_store (s : State) : s.restarted.store = { s.store with cause := .restart } := rfl
@[simp] theorem State.restarted_restartPending (s : State) : s.restarted.restartPending = false := rfl
@[simp] theorem State.restarted_params (s : State) : s.restarted.params = s.params := rfl
@[simp] theorem State.restarted_clock (s : State) : s.restarted.clock = s.clock := rfl
@[simp] theorem State.restarted_pins (s : State) : s.restarted.pins = s.pins := rfl
@[simp] theorem State.restarted_power (s : State) : s.restarted.power = s.power := rfl
@[simp] theorem State.restarted_pending (s : State) : s.restarted.pending = s.pending := rfl

end Sys2Proof.Machine
end

