-- ==== Sys2Proof/Laws/Choices.lean ====
section
/-! SUPPORT. What the choices of the part find: the least of several lanes, the first stage with a candidate, the dropped
reservations, the retained vehicles of a survey, the reached schedule entry, and the order of the blocks' work. -/

namespace Sys2Proof.Machine

/-! ### Lane choice (R57) -/

theorem leastBy_eq_none (m : LaneId → Nat) (l : List LaneId) : leastBy m l = none ↔ l = [] := by
  cases l with
  | nil => simp [leastBy]
  | cons a as =>
    simp only [leastBy]
    split
    · simp
    · split <;> simp

/-- The lane found is one of the candidates and has the least measure. -/
theorem leastBy_spec (m : LaneId → Nat) (l : List LaneId) (b : LaneId) (h : leastBy m l = some b) :
    b ∈ l ∧ ∀ a ∈ l, m b ≤ m a := by
  induction l generalizing b with
  | nil => simp [leastBy] at h
  | cons a as ih =>
    simp only [leastBy] at h
    split at h
    · rename_i hn
      rw [leastBy_eq_none] at hn
      simp_all
    · rename_i c hc
      obtain ⟨hm, hl⟩ := ih c hc
      split at h <;> cases h
      · rename_i hle
        refine ⟨by simp, fun x hx => ?_⟩
        rcases List.mem_cons.1 hx with rfl | hx
        · exact le_refl _
        · exact hle.trans (hl x hx)
      · rename_i hle
        refine ⟨by simp [hm], fun x hx => ?_⟩
        rcases List.mem_cons.1 hx with rfl | hx
        · omega
        · exact hl x hx

theorem firstStage_eq_none (l : List (Nat × Option LaneId)) : firstStage l = none ↔ ∀ p ∈ l, p.2 = none := by
  induction l with
  | nil => simp [firstStage]
  | cons p ps ih =>
    obtain ⟨n, _ | b⟩ := p
    · simp [firstStage, ih]
    · simp [firstStage]

theorem firstStage_mem (l : List (Nat × Option LaneId)) (b : LaneId) (n : Nat) (h : firstStage l = some (b, n)) :
    (n, some b) ∈ l := by
  induction l with
  | nil => simp [firstStage] at h
  | cons p ps ih =>
    obtain ⟨k, _ | c⟩ := p
    · exact List.mem_cons_of_mem _ (ih (by simpa [firstStage] using h))
    · simp only [firstStage, Option.some.injEq, Prod.mk.injEq] at h
      simp [h.1, h.2]

/-! ### Routes (R49) -/

/-- The steps skipped and the rest are the route; none of the skipped is taken, and the rest begins with one that is. -/
theorem splitRoute_spec (s : State) (l : List Station) :
    (s.splitRoute l).1 ++ (s.splitRoute l).2 = l ∧ (∀ st ∈ (s.splitRoute l).1, s.stepTaken st = false) ∧
    (∀ st rest, (s.splitRoute l).2 = st :: rest → s.stepTaken st = true) := by
  induction l with
  | nil => simp [State.splitRoute]
  | cons st l ih =>
    obtain ⟨h1, h2, h3⟩ := ih
    simp only [State.splitRoute]
    split
    · rename_i h
      exact ⟨rfl, by simp, fun r _ e => by cases e; exact h⟩
    · rename_i h
      refine ⟨by simpa using h1, ?_, h3⟩
      simpa [h] using h2

/-! ### Dropped reservations (R34) -/

/-- Those dropped and those kept are the list, and those kept fit where the rest of the lane does. -/
theorem dropUntilFits_spec (len : Nat → Nat) (capacity used : Nat) (l : List Nat) :
    (dropUntilFits len capacity used l).1 ++ (dropUntilFits len capacity used l).2 = l ∧
    (used ≤ capacity → used + ((dropUntilFits len capacity used l).2.map len).sum ≤ capacity) := by
  induction l with
  | nil => simp [dropUntilFits]
  | cons f l ih =>
    simp only [dropUntilFits]
    split
    · rename_i h
      refine ⟨rfl, fun _ => ?_⟩
      simp only [List.map_cons, List.sum_cons]
      omega
    · exact ⟨by simpa using ih.1, ih.2⟩

/-! ### Surveys (R39) -/

/-- The walk keeps what it has, adds registered vehicles of the list in its order, none twice, and stays within capacity. -/
theorem walk_spec (s : State) (capacity : Nat) (l kept : List Nat) (used : Nat) :
    ∃ more, (s.walk capacity kept used l).retained = kept ++ more ∧ more.Sublist l ∧
      (kept.Nodup → (kept ++ more).Nodup) ∧ (∀ f ∈ more, s.vehicle? f ≠ none) ∧
      (used ≤ capacity → used + s.lengthSum more ≤ capacity) := by
  induction l generalizing kept used with
  | nil => exact ⟨[], by simp [State.walk, State.lengthSum]⟩
  | cons f l ih =>
    simp only [State.walk]
    split
    · obtain ⟨m, h1, h2, h3⟩ := ih kept used
      exact ⟨m, h1, h2.cons f, h3⟩
    · rename_i v hv
      split
      · obtain ⟨m, h1, h2, h3⟩ := ih kept used
        exact ⟨m, h1, h2.cons f, h3⟩
      · rename_i hk
        split
        · rename_i hfit
          obtain ⟨m, h1, h2, h3, h4, h5⟩ := ih (kept ++ [f]) (used + v.cls.length)
          have hlen : s.lengthOf f = v.cls.length := by simp [State.lengthOf, hv]
          have hk' : f ∉ kept := by simpa using hk
          refine ⟨f :: m, by simpa using h1, h2.cons_cons f, fun hn => ?_, ?_, fun _ => ?_⟩
          · have := h3 (by
              rw [List.nodup_append]
              exact ⟨hn, by simp, fun a ha b hb => by
                rw [List.mem_singleton.1 hb]
                exact fun e => hk' (e ▸ ha)⟩)
            simpa using this
          · intro g hg
            rcases List.mem_cons.1 hg with rfl | hg
            · simp [hv]
            · exact h4 g hg
          · have := h5 hfit
            simp only [State.lengthSum, List.map_cons, List.sum_cons, hlen] at this ⊢
            omega
        · exact ⟨[], by simp [State.lengthSum]⟩

/-! ### The limit schedule (R95, R96) -/

theorem mem_removeEntry (m : Nat) (e : SchedEntry) (l : List SchedEntry) :
    e ∈ removeEntry m l ↔ e ∈ l ∧ e.minute ≠ m := by simp [removeEntry]

theorem latestEntry_mem (m : Nat) (l : List SchedEntry) (e : SchedEntry) (h : latestEntry m l = some e) : e ∈ l := by
  induction l generalizing e with
  | nil => simp [latestEntry] at h
  | cons a as ih =>
    simp only [latestEntry] at h
    split at h
    · cases h
      simp
    · rename_i b hb
      split at h <;> cases h
      · simp
      · simp [ih _ hb]

/-! ### The order of the blocks' work (log 2) -/

/-- What every piece of work keeps, a clock event keeps, whatever the order. -/
theorem runWorks_rel (r : ClockEv → ClockEv → Prop) (refl : ∀ x, r x x) (trans : ∀ x y z, r x y → r y z → r x z)
    (rank : Work → Nat) (run : Work → ClockEv → ClockEv) (step : ∀ w x, r x (run w x)) (n : Nat) (l : List Work)
    (x : ClockEv) : r x (runWorks rank run n l x) := by
  induction n generalizing l x with
  | zero => exact refl x
  | succ n ih =>
    simp only [runWorks]
    split
    · exact refl x
    · exact trans _ _ _ (step _ x) (ih _ _)

theorem mostUrgent_mem (rank : Work → Nat) (l : List Work) (w : Work) (h : mostUrgent rank l = some w) : w ∈ l := by
  induction l generalizing w with
  | nil => simp [mostUrgent] at h
  | cons a as ih =>
    simp only [mostUrgent] at h
    split at h
    · cases h
      simp
    · rename_i b hb
      split at h <;> cases h
      · simp
      · simp [ih _ hb]

end Sys2Proof.Machine
end

