-- ==== Sys2Proof/Laws/Kept.lean ====
section
/-! SUPPORT. What the yard's shared operations can do, said once: none of them changes the configuration, the clock, the
straps, the store, a lane's definition, a line of a port, a limit, or the numbers and due times of the tables; notices are
only added. Each operation has one lemma here, and later proofs cite it in place of unfolding the operation. -/

namespace Sys2Proof.Machine

/-- What work in the yard and on the roster keeps. -/
structure Kept (s t : State) : Prop where
  control : SameControl s t
  pins : t.pins = s.pins
  lanes : ∀ l, (t.lane l).defn = (s.lane l).defn
  lines : ∀ p, (t.port p).rx = (s.port p).rx ∧ (t.port p).fifo = (s.port p).fifo ∧ (t.port p).tx = (s.port p).tx ∧
    (t.port p).overrun = (s.port p).overrun
  notices : ∀ p, (s.port p).notices <+: (t.port p).notices
  room : ∀ p, (s.port p).notices.length ≤ 32 → (t.port p).notices.length ≤ 32
  overflowed : ∀ p, (s.port p).overflowed = true → (t.port p).overflowed = true
  limits : t.charge.pending = s.charge.pending ∧ t.charge.inForce = s.charge.inForce ∧
    t.charge.schedule = s.charge.schedule ∧ t.charge.passNumber = s.charge.passNumber
  vehicles : t.fleet.map Vehicle.number = s.fleet.map Vehicle.number
  duties : t.duties.map (fun d => (d.number, d.day, d.due)) = s.duties.map (fun d => (d.number, d.day, d.due))

theorem SameControl.refl (s : State) : SameControl s s := ⟨rfl, ⟨rfl, rfl⟩, rfl, rfl, rfl, rfl, rfl, rfl⟩

theorem SameControl.trans {s t u : State} (h : SameControl s t) (k : SameControl t u) : SameControl s u :=
  ⟨k.power.trans h.power, ⟨k.straps.1.trans h.straps.1, k.straps.2.trans h.straps.2⟩, k.store.trans h.store,
    k.restart.trans h.restart, k.params.trans h.params, k.clock.trans h.clock, k.freeCount.trans h.freeCount,
    k.pending.trans h.pending⟩

theorem Kept.refl (s : State) : Kept s s :=
  ⟨.refl s, rfl, fun _ => rfl, fun _ => ⟨rfl, rfl, rfl, rfl⟩, fun _ => List.prefix_refl _, fun _ h => h, fun _ h => h,
    ⟨rfl, rfl, rfl, rfl⟩, rfl, rfl⟩

theorem Kept.trans {s t u : State} (h : Kept s t) (k : Kept t u) : Kept s u :=
  ⟨h.control.trans k.control, k.pins.trans h.pins, fun l => (k.lanes l).trans (h.lanes l),
    fun p => ⟨(k.lines p).1.trans (h.lines p).1, (k.lines p).2.1.trans (h.lines p).2.1,
      (k.lines p).2.2.1.trans (h.lines p).2.2.1, (k.lines p).2.2.2.trans (h.lines p).2.2.2⟩,
    fun p => (h.notices p).trans (k.notices p), fun p e => k.room p (h.room p e),
    fun p e => k.overflowed p (h.overflowed p e),
    ⟨k.limits.1.trans h.limits.1, k.limits.2.1.trans h.limits.2.1, k.limits.2.2.1.trans h.limits.2.2.1,
      k.limits.2.2.2.trans h.limits.2.2.2⟩,
    k.vehicles.trans h.vehicles, k.duties.trans h.duties⟩

theorem Kept.foldl {β : Type} (f : State → β → State) (step : ∀ s b, Kept s (f s b)) (l : List β) (s : State) :
    Kept s (l.foldl f s) := foldl_rel Kept .refl (fun _ _ _ => .trans) f step l s

theorem Kept.foldlEv {β : Type} (f : Ev → β → Ev) (step : ∀ e b, Kept e.s (f e b).s) (l : List β) (e : Ev) :
    Kept e.s (l.foldl f e).s :=
  foldl_rel (fun a b : Ev => Kept a.s b.s) (fun _ => .refl _) (fun _ _ _ => .trans) f step l e

/-! ### One field -/

theorem kept_setApron (x : List Nat) (s : State) : Kept s (s.setApron x) := { Kept.refl s with control := ⟨rfl, ⟨rfl, rfl⟩, rfl, rfl, rfl, rfl, rfl, rfl⟩ }
theorem kept_setUnplaced (x : List Unplaced) (s : State) : Kept s (s.setUnplaced x) := { Kept.refl s with control := ⟨rfl, ⟨rfl, rfl⟩, rfl, rfl, rfl, rfl, rfl, rfl⟩ }
theorem kept_setStations (x : Stations) (s : State) : Kept s (s.setStations x) := { Kept.refl s with control := ⟨rfl, ⟨rfl, rfl⟩, rfl, rfl, rfl, rfl, rfl, rfl⟩ }
theorem kept_setWindow (x : List WindowEntry) (s : State) : Kept s (s.setWindow x) := { Kept.refl s with control := ⟨rfl, ⟨rfl, rfl⟩, rfl, rfl, rfl, rfl, rfl, rfl⟩ }
theorem kept_setUnit (u : UnitId) (r : StationUnit) (s : State) : Kept s (s.setUnit u r) := kept_setStations _ s

/-! ### Records -/

theorem kept_modVehicle (f : Nat) (x : Vehicle → Vehicle) (s : State) (h : ∀ v, v.number = f → (x v).number = f) :
    Kept s (s.modVehicle f x) :=
  { Kept.refl s with
    control := ⟨rfl, ⟨rfl, rfl⟩, rfl, rfl, rfl, rfl, rfl, rfl⟩
    vehicles := State.modVehicle_numbers f x s h }

theorem kept_mapFleet (x : Vehicle → Vehicle) (s : State) (h : ∀ v, (x v).number = v.number) :
    Kept s (s.mapFleet x) :=
  { Kept.refl s with
    control := ⟨rfl, ⟨rfl, rfl⟩, rfl, rfl, rfl, rfl, rfl, rfl⟩
    vehicles := by
      simp only [State.mapFleet, State.setFleet, List.map_map]
      exact List.map_congr_left fun v _ => h v }

theorem kept_modDuty (n : Nat) (x : Duty → Duty) (s : State)
    (h : ∀ d, (x d).number = d.number ∧ (x d).day = d.day ∧ (x d).due = d.due) : Kept s (s.modDuty n x) :=
  { Kept.refl s with
    control := ⟨rfl, ⟨rfl, rfl⟩, rfl, rfl, rfl, rfl, rfl, rfl⟩
    duties := by
      simp only [State.modDuty, State.setDuties, List.map_map]
      refine List.map_congr_left fun d _ => ?_
      simp only [Function.comp_apply]
      split
      · rw [(h d).1, (h d).2.1, (h d).2.2]
      · rfl }

theorem kept_modLane (l : LaneId) (g : Lane → Lane) (s : State) (h : ∀ x, (g x).defn = x.defn) :
    Kept s (s.modLane l g) :=
  { Kept.refl s with
    control := ⟨rfl, ⟨rfl, rfl⟩, rfl, rfl, rfl, rfl, rfl, rfl⟩
    lanes := fun r => by
      rw [State.lane_modLane]
      split
      · rename_i e
        rw [h, e]
      · rfl }

/-! ### Notices -/

theorem push_notices (n : Notice) (x : Port) :
    x.notices <+: (x.push n).notices ∧ (x.notices.length ≤ 32 → (x.push n).notices.length ≤ 32) ∧
    (x.overflowed = true → (x.push n).overflowed = true) ∧ (x.push n).rx = x.rx ∧ (x.push n).fifo = x.fifo ∧
    (x.push n).tx = x.tx ∧ (x.push n).overrun = x.overrun := by
  simp only [Port.push]
  split
  · rename_i h
    exact ⟨List.prefix_append _ _, fun _ => by simpa using h, fun e => e, rfl, rfl, rfl, rfl⟩
  · exact ⟨List.prefix_refl _, fun e => e, fun _ => rfl, rfl, rfl, rfl, rfl⟩

theorem kept_push (p : PortId) (n : Notice) (s : State) : Kept s (s.modPort p (Port.push n)) := by
  have h := push_notices n
  have key : ∀ q, (s.port q).notices <+: ((s.modPort p (Port.push n)).port q).notices ∧
      ((s.port q).notices.length ≤ 32 → ((s.modPort p (Port.push n)).port q).notices.length ≤ 32) ∧
      ((s.port q).overflowed = true → ((s.modPort p (Port.push n)).port q).overflowed = true) ∧
      ((s.modPort p (Port.push n)).port q).rx = (s.port q).rx ∧
      ((s.modPort p (Port.push n)).port q).fifo = (s.port q).fifo ∧
      ((s.modPort p (Port.push n)).port q).tx = (s.port q).tx ∧
      ((s.modPort p (Port.push n)).port q).overrun = (s.port q).overrun := by
    intro q
    rw [State.port_modPort]
    split
    · exact h (s.port q)
    · exact ⟨List.prefix_refl _, fun e => e, fun e => e, rfl, rfl, rfl, rfl⟩
  exact { Kept.refl s with
    control := ⟨rfl, ⟨rfl, rfl⟩, rfl, rfl, rfl, rfl, rfl, rfl⟩
    notices := fun q => (key q).1, room := fun q => (key q).2.1, overflowed := fun q => (key q).2.2.1
    lines := fun q => (key q).2.2.2 }

theorem kept_post (ports : List PortId) (n : Notice) (s : State) : Kept s (s.post ports n) :=
  Kept.foldl (fun t p => t.modPort p (Port.push n)) (fun t p => kept_push p n t) ports s

/-! ### The vehicle's own updates keep its number -/

theorem owe_number (v : Vehicle) (st : Station) : (v.owe st).number = v.number := by cases st <;> rfl

theorem oweAll_number (l : List Station) (v : Vehicle) : (v.oweAll l).number = v.number := by
  induction l generalizing v with
  | nil => rfl
  | cons st l ih => exact (ih (v.owe st)).trans (owe_number v st)

theorem toParked_number (v : Vehicle) : v.toParked.number = v.number := oweAll_number v.route v
theorem toAbsent_number (v : Vehicle) : v.toAbsent.number = v.number := oweAll_number v.route v
theorem departed_number (v : Vehicle) : v.departed.number = v.number := oweAll_number v.route v

theorem turnDone_number (v : Vehicle) (st : Station) (ok : Bool) (level : Nat) :
    (v.turnDone st ok level).number = v.number := by cases st <;> rfl

/-! ### Charge (R91, R97) -/

theorem kept_startPass (s : State) : Kept s s.startPass := { Kept.refl s with control := ⟨rfl, ⟨rfl, rfl⟩, rfl, rfl, rfl, rfl, rfl, rfl⟩ }

theorem kept_triggerPass (s : State) : Kept s s.triggerPass := by
  simp only [State.triggerPass]
  split
  · exact .refl s
  · split
    · exact kept_startPass s
    · exact { Kept.refl s with control := ⟨rfl, ⟨rfl, rfl⟩, rfl, rfl, rfl, rfl, rfl, rfl⟩ }

theorem kept_firePass (e : Ev) : Kept e.s e.firePass.s := by
  simp only [Ev.firePass]
  split
  · exact kept_triggerPass e.s
  · exact .refl _

theorem kept_testStale (age : Nat → Nat) (s : State) (f : Nat) : Kept s (s.testStale age f) := by
  simp only [State.testStale]
  split
  · exact .refl s
  · split
    · exact (kept_modVehicle f _ s (by intro _ e; exact e)).trans (kept_post _ _ _)
    · exact .refl s

theorem kept_testStaleAll (age : Nat → Nat) (s : State) : Kept s (s.testStaleAll age) :=
  Kept.foldl _ (kept_testStale age) _ s

/-! ### Lane Map (R30, R31, R38) -/

theorem kept_refreshBlocked (l : LaneId) (ahead : List Nat) (f : Nat) (s : State) :
    Kept s (s.refreshBlocked l ahead f) := by
  simp only [State.refreshBlocked]
  split
  · exact .refl s
  · split
    · exact (kept_modVehicle f _ s (by intro _ e; exact e)).trans (kept_post _ _ _)
    · exact kept_modVehicle f _ s (by intro _ e; exact e)

theorem kept_refreshFrom (l : LaneId) (fs ahead : List Nat) (s : State) : Kept s (s.refreshFrom l ahead fs) := by
  induction fs generalizing ahead s with
  | nil => exact .refl s
  | cons f fs ih => exact (kept_refreshBlocked l ahead f s).trans (ih _ _)

theorem kept_recomputeLane (l : LaneId) (s : State) : Kept s (s.recomputeLane l) := kept_refreshFrom l _ _ s

theorem kept_recomputeAll (s : State) : Kept s s.recomputeAll :=
  Kept.foldl (fun t l => t.recomputeLane l) (fun t l => kept_recomputeLane l t) _ s

theorem kept_mapConflict (c : MapCause) (l : LaneId) (f : Nat) (s : State) : Kept s (s.mapConflict c l f) :=
  kept_post _ _ s

theorem kept_classConflict (l : LaneId) (f : Nat) (s : State) : Kept s (s.classConflict l f) := by
  simp only [State.classConflict]
  split
  · exact .refl s
  · split
    · exact kept_mapConflict _ _ _ s
    · exact .refl s

theorem kept_setParked (l : LaneId) (x : List Nat) (s : State) :
    Kept s (s.modLane l (fun y => { y with parked := x })) := kept_modLane l _ s (by intro _; rfl)
theorem kept_setReserved (l : LaneId) (x : List Nat) (s : State) :
    Kept s (s.modLane l (fun y => { y with reserved := x })) := kept_modLane l _ s (by intro _; rfl)
theorem kept_unpark (l : LaneId) (f : Nat) (s : State) : Kept s (s.unpark l f) := kept_modLane l _ s (by intro _; rfl)
theorem kept_unreserve (l : LaneId) (f : Nat) (s : State) : Kept s (s.unreserve l f) := kept_modLane l _ s (by intro _; rfl)

theorem kept_joinLane (l : LaneId) (f : Nat) (s : State) : Kept s (s.joinLane l f) :=
  (kept_modLane l _ s fun x => by cases x.defn.kind <;> simp).trans (kept_modVehicle f _ _ (by intro _ e; exact e))

/-! ### Bindings and calls (R119, R135 to R143) -/

theorem kept_bindBoth (n f : Nat) (fixed : Bool) (s : State) : Kept s (s.bindBoth n f fixed) :=
  (kept_modDuty n _ s (by intro _; exact ⟨rfl, rfl, rfl⟩)).trans (kept_modVehicle f _ _ (by intro _ e; exact e))

theorem kept_unbindBoth (n f : Nat) (st : DutyState) (s : State) : Kept s (s.unbindBoth n f st) :=
  (kept_modDuty n _ s (by intro _; exact ⟨rfl, rfl, rfl⟩)).trans (kept_modVehicle f _ _ (by intro _ e; exact e))

theorem kept_handOver (f : Nat) (e : Ev) : Kept e.s (e.handOver f).s := by
  simp only [Ev.handOver, Ev.wantPass_s]
  split
  · exact kept_recomputeLane _ e.s
  · exact .refl _

theorem kept_withdraw (f : Nat) (c : WithdrawCause) (e : Ev) : Kept e.s (e.withdraw f c).s := by
  simp only [Ev.withdraw]
  split
  · exact .refl _
  · exact (((kept_setWindow _ e.s).trans (kept_modDuty _ _ _ (by intro _; exact ⟨rfl, rfl, rfl⟩))).trans
      (kept_modVehicle f _ _ (by intro _ h; exact h))).trans (kept_post _ _ _)

theorem kept_withdrawIfCalled (f : Nat) (c : WithdrawCause) (e : Ev) : Kept e.s (e.withdrawIfCalled f c).s := by
  simp only [Ev.withdrawIfCalled]
  split
  · exact .refl _
  · split
    · exact kept_withdraw f c e
    · exact .refl _

theorem kept_reportNotReady (d : Duty) (v : Vehicle) (s : State) : Kept s (s.reportNotReady d v) := by
  simp only [State.reportNotReady]
  split
  · exact .refl s
  · exact (kept_modDuty _ _ s (by intro _; exact ⟨rfl, rfl, rfl⟩)).trans (kept_post _ _ _)

theorem kept_reportShunt (d : Duty) (v : Vehicle) (l : LaneId) (pos : Nat) (s : State) :
    Kept s (s.reportShunt d v l pos) := by
  simp only [State.reportShunt]
  split
  · exact kept_modDuty _ _ s (by intro _; exact ⟨rfl, rfl, rfl⟩)
  · exact (kept_modDuty _ _ s (by intro _; exact ⟨rfl, rfl, rfl⟩)).trans (kept_post _ _ _)

theorem kept_reportLowEnergy (d : Duty) (v : Vehicle) (l : LaneId) (s : State) : Kept s (s.reportLowEnergy d v l) := by
  simp only [State.reportLowEnergy]
  split
  · exact kept_modDuty _ _ s (by intro _; exact ⟨rfl, rfl, rfl⟩)
  · exact (kept_modDuty _ _ s (by intro _; exact ⟨rfl, rfl, rfl⟩)).trans (kept_post _ _ _)

theorem kept_clearReadiness (n : Nat) (s : State) : Kept s (s.clearReadiness n) :=
  kept_modDuty _ _ s (by intro _; exact ⟨rfl, rfl, rfl⟩)

theorem kept_callDuty (d : Duty) (v : Vehicle) (l : LaneId) (short : Bool) (s : State) :
    Kept s (s.callDuty d v l short) :=
  ((((kept_clearReadiness d.number s).trans (kept_modDuty _ _ _ (by intro _; exact ⟨rfl, rfl, rfl⟩))).trans
    (kept_modVehicle v.number _ _ (by intro _ e; exact e))).trans (kept_setWindow _ _)).trans (kept_post _ _ _)

theorem kept_scanDuties (ns : List Nat) (s : State) : Kept s (s.scanDuties ns) := by
  induction ns generalizing s with
  | nil => exact .refl s
  | cons n ns ih =>
    simp only [State.scanDuties]
    split
    · exact ih s
    · split
      · exact ih s
      · split
        · split
          · exact (kept_reportNotReady _ _ s).trans (ih _)
          · exact (kept_reportShunt _ _ _ _ s).trans (ih _)
          · exact (kept_reportLowEnergy _ _ _ s).trans (ih _)
          · exact kept_clearReadiness n s
          · exact (kept_callDuty _ _ _ _ s).trans (ih _)
        · exact ih s

theorem kept_scan (s : State) : Kept s s.scan := by
  simp only [State.scan]
  split
  · exact .refl s
  · exact kept_scanDuties _ s

theorem kept_lapseRecord (d : Duty) (e : Ev) : Kept e.s (e.lapseRecord d).s := by
  simp only [Ev.lapseRecord]
  split
  · exact (kept_modDuty _ _ e.s (by intro _; exact ⟨rfl, rfl, rfl⟩)).trans (kept_post _ _ _)
  · split
    · exact ((kept_withdraw _ _ e).trans (kept_unbindBoth _ _ _ _)).trans (kept_post _ _ _)
    · exact (kept_unbindBoth _ _ _ e.s).trans (kept_post _ _ _)

theorem kept_lapseDuty (d : Duty) (e : Ev) : Kept e.s (e.lapseDuty d).s := by
  simp only [Ev.lapseDuty]
  split
  · exact kept_lapseRecord d e
  · exact (kept_lapseRecord d e).trans (kept_handOver _ _)

theorem kept_lapseTest (e : Ev) : Kept e.s e.lapseTest.s :=
  Kept.foldlEv (fun x d => (x.lapseDuty d).firePass) (fun x d => (kept_lapseDuty d x).trans (kept_firePass _)) _ e

/-! ### Stations and queues (R69 to R74, R78, R79) -/

theorem kept_testLong (st : Station) (s : State) : Kept s (s.testLong st) := by
  simp only [State.testLong]
  split
  · exact (kept_setStations _ s).trans (kept_post _ _ _)
  · split
    · exact (kept_setStations _ s).trans (kept_post _ _ _)
    · exact .refl s

theorem kept_testLongs (due : Station → Bool) (s : State) : Kept s (s.testLongs due) := by
  simp only [State.testLongs]
  have h1 : Kept s (if due .wash then s.testLong .wash else s) := by
    split
    · exact kept_testLong _ s
    · exact .refl s
  generalize (if due .wash then s.testLong .wash else s) = s1 at h1 ⊢
  split
  · exact h1.trans (kept_testLong _ _)
  · exact h1

/-- The test of a long flag moves nobody. -/
@[simp] theorem testLong_queue (st r : Station) (s : State) : (s.testLong st).queue r = s.queue r := by
  simp only [State.testLong]
  split
  · rw [State.post_queue]; cases st <;> cases r <;> rfl
  · split
    · rw [State.post_queue]; cases st <;> cases r <;> rfl
    · rfl

@[simp] theorem testLongs_queue (due : Station → Bool) (r : Station) (s : State) : (s.testLongs due).queue r = s.queue r := by
  simp only [State.testLongs]
  split <;> split <;> simp

theorem kept_leaveQueue (st : Station) (f : Nat) (s : State) : Kept s (s.leaveQueue st f) := by
  cases st <;> exact kept_setStations _ s

theorem kept_enqueue (st : Station) (f : Nat) (s : State) : Kept s (s.enqueue st f) := by
  cases st <;> exact kept_setStations _ s

theorem kept_takeHead (u : UnitId) (s : State) : Kept s (s.takeHead u) := by
  simp only [State.takeHead]
  split
  · split
    · exact .refl s
    · exact (((kept_leaveQueue _ _ s).trans (kept_setUnit _ _ _)).trans (kept_modVehicle _ _ _ (by intro _ e; exact e))).trans
        (kept_post _ _ _)
  · exact .refl s

theorem kept_serve (st : Station) (s : State) : Kept s (s.serve st) := (kept_takeHead _ s).trans (kept_takeHead _ _)

/-! ### Placement (R50 to R64) -/

theorem kept_reserve (f : Nat) (l : LaneId) (stage : Nat) (s : State) : Kept s (s.reserve f l stage) := by
  have h := (kept_modLane l (fun x => { x with reserved := x.reserved ++ [f] }) s fun _ => rfl).trans
    (kept_modVehicle f (fun v => { v with state := .placing, placedAt := some s.clock.minute }) _ (by intro _ e; exact e))
  simp only [State.reserve]
  split
  · exact h
  · split
    · exact h.trans (kept_post _ _ _)
    · exact h

theorem kept_joinApron (f : Nat) (s : State) : Kept s (s.joinApron f) :=
  (kept_setApron _ s).trans (kept_modVehicle f _ _ (by intro _ e; exact e))

theorem kept_joinUnplaced (f : Nat) (p : PortId) (s : State) : Kept s (s.joinUnplaced f p) :=
  (kept_setUnplaced _ s).trans (kept_modVehicle f _ _ (by intro _ e; exact e))

theorem kept_joinQueue (st : Station) (f : Nat) (s : State) : Kept s (s.joinQueue st f) :=
  ((kept_enqueue st f s).trans (kept_modVehicle f _ _ (by intro _ e; exact e))).trans (kept_serve st _)

theorem kept_enter (f : Nat) (d : Disp) (s : State) : Kept s (s.enter f d) := by
  cases d
  · exact kept_joinQueue _ f s
  · exact kept_reserve f _ _ s
  · exact kept_joinApron f s
  · exact .refl s

theorem kept_carryOut (f : Nat) (p : Plan) (s : State) : Kept s (s.carryOut f p) :=
  (kept_modVehicle f _ s (by intro v e; exact (oweAll_number p.skipped v).trans e)).trans (kept_enter f _ _)

theorem kept_tellRoute (p : PortId) (f : Nat) (s : State) : Kept s (s.tellRoute p f) := kept_post _ _ s

theorem kept_continueRoute (f : Nat) (s : State) : Kept s (s.continueRoute f) := by
  simp only [State.continueRoute]
  split
  · exact .refl s
  · refine Kept.trans ?_ (kept_tellRoute _ _ _)
    split
    · exact (kept_carryOut f _ s).trans (kept_joinUnplaced f _ _)
    all_goals exact kept_carryOut f _ s

theorem kept_flushOne (st : Station) (s : State) (f : Nat) : Kept s (s.flushOne st f) :=
  ((kept_leaveQueue st f s).trans (kept_modVehicle f _ _ (by intro v e; exact (owe_number _ st).trans e))).trans
    (kept_continueRoute f _)

theorem kept_flush (st : Station) (s : State) : Kept s (s.flush st) :=
  (kept_post _ _ s).trans (Kept.foldl _ (kept_flushOne st) _ _)

theorem kept_stationTest (wasOpen : Bool) (st : Station) (s : State) : Kept s (s.stationTest wasOpen st) := by
  simp only [State.stationTest]
  split
  · exact kept_flush st s
  · exact .refl s

theorem kept_vacate (u : UnitId) (s : State) : Kept s (s.vacate u) := kept_setUnit u _ s

theorem kept_settle (wasOpen : Bool) (st : Station) (s : State) : Kept s (s.settle wasOpen st) :=
  (kept_serve _ s).trans (kept_stationTest _ _ _)

theorem kept_releaseUnit (u : UnitId) (s : State) : Kept s (s.releaseUnit u) :=
  (kept_vacate u s).trans (kept_settle _ _ _)

theorem kept_reallocate (l : LaneId) (s : State) (f : Nat) : Kept s (s.reallocate l f) := by
  simp only [State.reallocate]
  split
  · exact .refl s
  · split
    · exact (kept_post _ _ s).trans (kept_reserve _ _ _ _)
    · exact (kept_post _ _ s).trans (kept_joinApron _ _)
    all_goals exact (kept_post _ _ s).trans (kept_joinUnplaced _ _ _)

theorem kept_sweepUnplaced (s : State) (x : Unplaced) : Kept s (s.sweepUnplaced x) := by
  simp only [State.sweepUnplaced]
  split
  · exact .refl s
  · split
    any_goals exact .refl s
    all_goals exact ((kept_setUnplaced _ s).trans (kept_enter _ _ _)).trans (kept_tellRoute _ _ _)

theorem kept_sweepApron (s : State) (f : Nat) : Kept s (s.sweepApron f) := by
  simp only [State.sweepApron]
  split
  · exact .refl s
  · split
    · exact .refl s
    · exact ((kept_setApron _ s).trans (kept_reserve _ _ _ _)).trans (kept_tellRoute _ _ _)

theorem kept_sweepUnit (s : State) (u : UnitId) : Kept s (s.sweepUnit u) := by
  simp only [State.sweepUnit]
  split
  · split
    · exact .refl s
    · split
      any_goals exact .refl s
      all_goals exact ((kept_enter _ _ s).trans (kept_tellRoute _ _ _)).trans (kept_releaseUnit u _)
  · exact .refl s

theorem kept_sweep (s : State) : Kept s s.sweep :=
  ((Kept.foldl _ kept_sweepUnplaced _ s).trans (Kept.foldl _ kept_sweepApron _ _)).trans
    (Kept.foldl _ kept_sweepUnit _ _)

theorem kept_sweepEnd (s : State) : Kept s s.sweepEnd := (kept_sweep s).trans (kept_testLongs _ _)

theorem kept_close (e : Ev) (s : State) : Kept s (e.close s) := by
  simp only [Ev.close]
  have h1 : Kept s (if e.slot then s.scan else s) := by
    split
    · exact kept_scan s
    · exact .refl s
  split
  · exact h1.trans (kept_sweep _)
  · exact h1

theorem kept_finish (s0 : State) (e : Ev) : Kept e.s (e.finish s0) :=
  (((kept_firePass e).trans (kept_testLongs _ _)).trans (kept_close e _)).trans (kept_testLongs _ _)

/-! ### Fleet Register, Duty Roster and Station Sequencer -/

theorem kept_hold (f : Nat) (e : Ev) : Kept e.s (e.hold f).s := by
  simp only [Ev.hold]
  split
  · exact (kept_withdrawIfCalled f _ e).trans (kept_modVehicle f _ _ (by intro _ h; exact h))
  · exact (((kept_withdrawIfCalled f _ e).trans (kept_unbindBoth _ _ _ _)).trans
      (kept_modVehicle f _ _ (by intro _ h; exact h))).trans (kept_handOver f ⟨_, _, _, _⟩)

theorem kept_detach (d : Duty) (b : Binding) (c : WithdrawCause) (e : Ev) : Kept e.s (e.detach d b c).s := by
  simp only [Ev.detach]
  split
  · exact (kept_withdraw _ c e).trans (kept_unbindBoth _ _ _ _)
  · exact kept_unbindBoth _ _ _ e.s

theorem kept_bind (d : Duty) (f : Nat) (e : Ev) : Kept e.s (e.bind d f).s := by
  simp only [Ev.bind]
  split
  · exact (kept_bindBoth _ f true e.s).trans (kept_handOver f ⟨_, _, _, _⟩)
  · split
    · exact kept_bindBoth _ f true e.s
    · exact (((kept_unbindBoth _ _ _ e.s).trans (kept_bindBoth _ f true _)).trans (kept_handOver _ ⟨_, _, _, _⟩)).trans
        (kept_handOver f _)

theorem kept_autoBindOne (e : Ev) (d : Duty) : Kept e.s (e.autoBindOne d).s := by
  simp only [Ev.autoBindOne]
  split
  · exact ((kept_bindBoth _ _ _ e.s).trans (kept_handOver _ ⟨_, _, _, _⟩)).trans (kept_firePass _)
  · split
    · exact .refl _
    · exact (kept_modDuty _ _ e.s (by intro _; exact ⟨rfl, rfl, rfl⟩)).trans (kept_post _ _ _)

theorem kept_autoBind (e : Ev) : Kept e.s e.autoBind.s := Kept.foldlEv _ kept_autoBindOne _ e

theorem kept_faultOccupied (u : UnitId) (s : State) : Kept s (s.faultOccupied u) := by
  simp only [State.faultOccupied]
  refine Kept.trans ?_ (kept_stationTest _ _ _)
  split
  · exact kept_setUnit u _ s
  · exact ((kept_setUnit u _ s).trans (kept_modVehicle _ _ _ (by intro v e; exact (owe_number _ _).trans e))).trans
      (kept_continueRoute _ _)

theorem kept_unitReport (u : UnitId) (r : Reported) (s t : State) (h : s.unitReport u r = some t) : Kept s t := by
  simp only [State.unitReport] at h
  split at h
  all_goals first
    | (obtain rfl := Option.some.inj h
       first
         | exact .refl _
         | exact (kept_setUnit u _ s).trans (kept_serve _ _)
         | exact (kept_setUnit u _ s).trans (kept_stationTest _ _ _)
         | exact kept_setUnit u _ s
         | exact kept_faultOccupied u s)
    | cases h

theorem kept_turnWork (u : UnitId) (f : Nat) (ok : Bool) (level : Nat) (s : State) :
    Kept s (s.turnWork u f ok level) := by
  have h := kept_modVehicle f (fun v => v.turnDone u.station ok level) s
    (by intro v e; exact (turnDone_number v u.station ok level).trans e)
  simp only [State.turnWork]
  split
  · exact h
  · split
    · exact (h.trans (kept_carryOut f _ _)).trans (kept_setUnit u _ _)
    all_goals exact (h.trans (kept_carryOut f _ _)).trans (kept_releaseUnit u _)

theorem kept_overrun (u : UnitId) (s : State) : Kept s (s.overrun u) := by
  simp only [State.overrun]
  split
  · exact kept_setUnit u _ s
  · exact (kept_setUnit u _ s).trans (kept_post _ _ _)

theorem kept_tickUnit (s : State) (u : UnitId) : Kept s (s.tickUnit u) := by
  simp only [State.tickUnit]
  split
  · split
    · exact .refl s
    · exact .refl s
    · exact kept_overrun u s
    · exact kept_setUnit u _ s
  · exact .refl s

theorem kept_tickUnits (s : State) : Kept s s.tickUnits := Kept.foldl _ kept_tickUnit _ s

/-! ### Gate, lane reports and surveys -/

theorem kept_settleDuty (v : Vehicle) (e : Ev) : Kept e.s (e.settleDuty v).s := by
  simp only [Ev.settleDuty]
  split
  · split
    · exact .refl _
    · exact ((kept_setWindow _ e.s).trans (kept_unbindBoth _ _ _ _)).trans (kept_modDuty _ _ _ (by intro _; exact ⟨rfl, rfl, rfl⟩))
  · split
    · exact kept_post _ _ e.s
    · exact (kept_unbindBoth _ _ _ e.s).trans (kept_post _ _ _)

theorem kept_leaveForGate (v : Vehicle) (e : Ev) : Kept e.s (e.leaveForGate v).s := by
  have leave : ∀ l, Kept e.s ((e.s.unpark l v.number).recomputeLane l) := fun l =>
    (kept_unpark l v.number e.s).trans (kept_recomputeLane l _)
  simp only [Ev.leaveForGate]
  split
  · exact .refl _
  · exact kept_setApron _ e.s
  · split
    · exact .refl _
    · exact kept_leaveQueue _ _ e.s
  · split
    · exact .refl _
    · exact kept_releaseUnit _ e.s
  · split
    · exact kept_unreserve _ _ e.s
    · exact kept_setUnplaced _ e.s
  all_goals
    split
    · exact .refl _
    · split
      · exact leave _
      · exact ((kept_post _ _ e.s).trans (kept_unpark _ _ _)).trans (kept_recomputeLane _ _)

theorem kept_takeFrom (survey : Bool) (l : LaneId) (v : Vehicle) (e : Ev) : Kept e.s (e.takeFrom survey l v).s := by
  simp only [Ev.takeFrom]
  split
  · split
    · exact .refl _
    · exact kept_mapConflict _ _ _ e.s
  · exact kept_setApron _ e.s
  · split
    · exact .refl _
    · exact kept_leaveQueue _ _ e.s
  · split
    · exact .refl _
    · cases survey
      · exact kept_releaseUnit _ e.s
      · exact kept_vacate _ e.s
  · split
    · split
      · exact .refl _
      · exact (kept_unreserve _ _ e.s).trans (kept_mapConflict _ _ _ _)
    · exact kept_setUnplaced _ e.s
  all_goals
    split
    · exact .refl _
    · exact (kept_withdrawIfCalled _ _ e).trans (kept_unpark _ _ _)

theorem kept_makeRoom (l : LaneId) (n : Nat) (e : Ev) : Kept e.s (e.makeRoom l n).1.s :=
  kept_setReserved l _ e.s

theorem kept_clearHead (l : LaneId) (e : Ev) : Kept e.s (e.clearHead l).s := by
  simp only [Ev.clearHead]
  split
  · exact kept_withdraw _ _ e
  · exact .refl _

theorem kept_recomputeBoth (l : LaneId) (left : Option LaneId) (e : Ev) : Kept e.s (e.recomputeBoth l left).s := by
  simp only [Ev.recomputeBoth]
  split
  · exact kept_recomputeLane l e.s
  · exact (kept_recomputeLane l e.s).trans (kept_recomputeLane _ _)

theorem kept_entryWork (v : Vehicle) (l : LaneId) (s : State) : Kept s (s.entryWork v l).1 := by
  simp only [State.entryWork]
  refine Kept.trans ?_ (kept_finish s _)
  refine Kept.trans ?_ (Kept.foldl _ (kept_reallocate l) _ _)
  refine Kept.trans ?_ (kept_recomputeBoth l _ _)
  refine Kept.trans ?_ (kept_classConflict l _ _)
  refine Kept.trans ?_ (kept_modVehicle _ _ _ (by intro w e; exact (toParked_number w).trans e))
  refine Kept.trans ?_ (kept_joinLane l _ _)
  refine Kept.trans ?_ (kept_clearHead l _)
  refine Kept.trans ?_ (kept_makeRoom l _ _)
  exact (kept_takeFrom false l v (Ev.start s)).trans (kept_unreserve l _ _)

theorem kept_tellUnknown (l : LaneId) (s : State) (f : Nat) : Kept s (s.tellUnknown l f) := kept_post _ _ s

theorem kept_tellWalk (l : LaneId) (w : Walk) (s : State) : Kept s (s.tellWalk l w) := by
  simp only [State.tellWalk]
  split
  · exact Kept.foldl _ (kept_tellUnknown l) _ s
  · exact (Kept.foldl _ (kept_tellUnknown l) _ s).trans (kept_mapConflict _ _ _ _)

theorem kept_surveyTake (l : LaneId) (e : Ev) (f : Nat) : Kept e.s (e.surveyTake l f).s := by
  simp only [Ev.surveyTake]
  split
  · exact .refl _
  · split
    · exact kept_withdrawIfCalled f _ e
    · exact (kept_takeFrom true l _ e).trans (kept_modVehicle f _ _ (by intro _ h; exact h))

theorem kept_surveyMissing (l : LaneId) (e : Ev) (f : Nat) : Kept e.s (e.surveyMissing l f).s :=
  ((kept_withdrawIfCalled f .survey e).trans (kept_modVehicle f _ _ (by intro v h; exact (toAbsent_number v).trans h))).trans
    (kept_mapConflict _ _ _ _)

theorem kept_surveyPark (e : Ev) (f : Nat) : Kept e.s (e.surveyPark f).s :=
  kept_modVehicle f _ e.s (by intro v h; exact (toParked_number v).trans h)

theorem kept_settleBoth (s0 s : State) : Kept s (State.settleBoth s0 s) := (kept_settle _ _ s).trans (kept_settle _ _ _)

theorem kept_surveyWork (l : LaneId) (fs : List Nat) (s : State) : Kept s (s.surveyWork l fs).1 := by
  simp only [State.surveyWork]
  refine Kept.trans ?_ (kept_finish s _)
  refine Kept.trans ?_ (Kept.foldl _ (kept_reallocate l) _ _)
  refine Kept.trans ?_ (Kept.foldlEv (fun e r => e.map (State.recomputeLane r)) (fun e r => kept_recomputeLane r e.s) _ _)
  refine Kept.trans ?_ (kept_recomputeLane l _)
  refine Kept.trans ?_ (kept_settleBoth s _)
  refine Kept.trans ?_ (Kept.foldl (fun x f => x.classConflict l f) (fun x f => kept_classConflict l f x) _ _)
  refine Kept.trans ?_ (Kept.foldlEv _ kept_surveyPark _ _)
  refine Kept.trans ?_ (kept_setParked l _ _)
  refine Kept.trans ?_ (Kept.foldlEv _ (kept_surveyMissing l) _ _)
  refine Kept.trans ?_ (kept_setReserved l _ _)
  exact (kept_tellWalk l _ s).trans (Kept.foldlEv _ (kept_surveyTake l) _ (Ev.start _))

theorem kept_gateInWork (v : Vehicle) (level : Nat) (wash : Bool) (s : State) :
    Kept s (s.gateInWork v level wash).1 := by
  have go : ∀ p : Plan, Kept s
      ((Ev.start ((s.modVehicle v.number (fun w => w.atGate level)).carryOut v.number p)).finish s) := fun p =>
    ((kept_modVehicle v.number (fun w => w.atGate level) s (by intro _ e; exact e)).trans (kept_carryOut v.number p _)).trans
      (kept_finish s (Ev.start _))
  simp only [State.gateInWork]
  split
  · exact kept_post _ _ s
  all_goals split <;> exact go _

theorem kept_gateOutWork (v : Vehicle) (s : State) : Kept s (s.gateOutWork v).1 :=
  (((kept_settleDuty v (Ev.start s)).trans (kept_leaveForGate v _)).trans
    (kept_modVehicle v.number _ _ (by intro w e; exact (departed_number w).trans e))).trans (kept_finish s ⟨_, _, _, _⟩)

theorem kept_testOverdue (age : Nat → Nat) (s : State) (f : Nat) : Kept s (s.testOverdue age f) := by
  simp only [State.testOverdue]
  split
  · exact .refl s
  · split
    · split
      · exact (kept_post _ _ s).trans (kept_modVehicle f _ _ (by intro _ e; exact e))
      · exact .refl s
    · exact .refl s

theorem kept_testOverdueAll (age : Nat → Nat) (s : State) : Kept s (s.testOverdueAll age) :=
  Kept.foldl _ (kept_testOverdue age) _ s

theorem kept_pullOut (e : Ev) : Kept e.s e.pullOut.s :=
  ((kept_lapseTest e).trans (kept_autoBind _)).trans (kept_scan _)

end Sys2Proof.Machine
end

