-- ==== Sys2Proof/Laws/PerInstr.lean ====
section
/-! SUPPORT. One lemma per command about its request body: it begins with the code of the command's kind and has the length
that the command's fields take (R163, R172); a command that is not a request of a known kind has no body. -/

namespace Sys2Proof.Laws

open Sys2Proof.Machine

/-- The body that spells a command, where it has one, begins with the code of its kind and has the length of its fields; for
LANE_CONTENT, where as many numbers follow as the count says. -/
def Shape.Statement (c : Instr) : Prop :=
  match encodeRequest c with
  | none => c.kind? = none
  | some b =>
    ∃ k, c.kind? = some k ∧ b.head? = some (byteOf k.code) ∧
      ((∀ h l n fs, c = .laneContent h l n fs → fs.length = n) → b.length = c.bodyLength)

theorem flatMap_wordBytes_length (fs : List Nat) : (fs.flatMap wordBytes).length = 2 * fs.length := by
  induction fs with
  | nil => rfl
  | cons f fs ih => simp [List.flatMap_cons, wordBytes, ih]; omega

theorem Shape.telegramReceived (p : PortId) (body : List Byte) (check : Check) :
    Shape.Statement (.telegramReceived p body check) := rfl

theorem Shape.characterGapTimeout (p : PortId) : Shape.Statement (.characterGapTimeout p) := rfl

theorem Shape.replyTransmitted (p : PortId) : Shape.Statement (.replyTransmitted p) := rfl

theorem Shape.unknownKindRequest (h : Hdr) (code : Nat) : Shape.Statement (.unknownKindRequest h code) := rfl

theorem Shape.readStatus (h : Hdr) : Shape.Statement (.readStatus h) :=
  ⟨_, rfl, rfl, fun _ => rfl⟩

theorem Shape.takeNotice (h : Hdr) : Shape.Statement (.takeNotice h) :=
  ⟨_, rfl, rfl, fun _ => rfl⟩

theorem Shape.readVehicle (h : Hdr) (fleet : Nat) : Shape.Statement (.readVehicle h fleet) :=
  ⟨_, rfl, rfl, fun _ => rfl⟩

theorem Shape.readLane (h : Hdr) (lane : Nat) : Shape.Statement (.readLane h lane) :=
  ⟨_, rfl, rfl, fun _ => rfl⟩

theorem Shape.readDutyOne (h : Hdr) (duty : Nat) : Shape.Statement (.readDutyOne h duty) :=
  ⟨_, rfl, rfl, fun _ => rfl⟩

theorem Shape.readDutyList (h : Hdr) (start : Nat) : Shape.Statement (.readDutyList h start) :=
  ⟨_, rfl, rfl, fun _ => rfl⟩

theorem Shape.readGrantsGrants (h : Hdr) (scope : Nat) (start : Nat) :
    Shape.Statement (.readGrantsGrants h scope start) :=
  ⟨_, rfl, rfl, fun _ => rfl⟩

theorem Shape.readGrantsLimits (h : Hdr) : Shape.Statement (.readGrantsLimits h) :=
  ⟨_, rfl, rfl, fun _ => rfl⟩

theorem Shape.readStation (h : Hdr) (station : Nat) : Shape.Statement (.readStation h station) :=
  ⟨_, rfl, rfl, fun _ => rfl⟩

theorem Shape.setClock (h : Hdr) (minute : Nat) (day : Nat) : Shape.Statement (.setClock h minute day) :=
  ⟨_, rfl, rfl, fun _ => rfl⟩

theorem Shape.setParam (h : Hdr) (number : Nat) (value : Nat) : Shape.Statement (.setParam h number value) :=
  ⟨_, rfl, rfl, fun _ => rfl⟩

theorem Shape.setLimits (h : Hdr) (l1 : Nat) (l2 : Nat) (l3 : Nat) (l4 : Nat) (depot : Nat) :
    Shape.Statement (.setLimits h l1 l2 l3 l4 depot) :=
  ⟨_, rfl, rfl, fun _ => rfl⟩

theorem Shape.setSchedulePut (h : Hdr) (minute : Nat) (limit : Nat) :
    Shape.Statement (.setSchedulePut h minute limit) :=
  ⟨_, rfl, rfl, fun _ => rfl⟩

theorem Shape.setScheduleRemove (h : Hdr) (minute : Nat) : Shape.Statement (.setScheduleRemove h minute) :=
  ⟨_, rfl, rfl, fun _ => rfl⟩

theorem Shape.setScheduleClear (h : Hdr) : Shape.Statement (.setScheduleClear h) :=
  ⟨_, rfl, rfl, fun _ => rfl⟩

theorem Shape.defineLane (h : Hdr) (d : LaneFields) : Shape.Statement (.defineLane h d) :=
  ⟨_, rfl, rfl, fun _ => rfl⟩

theorem Shape.registerVehicle (h : Hdr) (fleet : Nat) (cls : Nat) (kind : Nat) (capacity : Nat) (target : Nat) :
    Shape.Statement (.registerVehicle h fleet cls kind capacity target) :=
  ⟨_, rfl, rfl, fun _ => rfl⟩

theorem Shape.retireVehicle (h : Hdr) (fleet : Nat) : Shape.Statement (.retireVehicle h fleet) :=
  ⟨_, rfl, rfl, fun _ => rfl⟩

theorem Shape.setHoldOn (h : Hdr) (fleet : Nat) (on : Nat) : Shape.Statement (.setHoldOn h fleet on) :=
  ⟨_, rfl, rfl, fun _ => rfl⟩

theorem Shape.setHoldOff (h : Hdr) (fleet : Nat) : Shape.Statement (.setHoldOff h fleet) :=
  ⟨_, rfl, rfl, fun _ => rfl⟩

theorem Shape.loadDuty (h : Hdr) (d : DutyFields) : Shape.Statement (.loadDuty h d) :=
  ⟨_, rfl, rfl, fun _ => rfl⟩

theorem Shape.cancelDuty (h : Hdr) (duty : Nat) : Shape.Statement (.cancelDuty h duty) :=
  ⟨_, rfl, rfl, fun _ => rfl⟩

theorem Shape.bindDuty (h : Hdr) (duty : Nat) (fleet : Nat) : Shape.Statement (.bindDuty h duty fleet) :=
  ⟨_, rfl, rfl, fun _ => rfl⟩

theorem Shape.unbindDuty (h : Hdr) (duty : Nat) : Shape.Statement (.unbindDuty h duty) :=
  ⟨_, rfl, rfl, fun _ => rfl⟩

theorem Shape.saveConfig (h : Hdr) : Shape.Statement (.saveConfig h) :=
  ⟨_, rfl, rfl, fun _ => rfl⟩

theorem Shape.loadConfig (h : Hdr) : Shape.Statement (.loadConfig h) :=
  ⟨_, rfl, rfl, fun _ => rfl⟩

theorem Shape.restart (h : Hdr) : Shape.Statement (.restart h) :=
  ⟨_, rfl, rfl, fun _ => rfl⟩

theorem Shape.restartTakesEffect : Shape.Statement (.restartTakesEffect) := rfl

theorem Shape.gateIn (h : Hdr) (fleet : Nat) (level : Nat) (wash : Nat) :
    Shape.Statement (.gateIn h fleet level wash) :=
  ⟨_, rfl, rfl, fun _ => rfl⟩

theorem Shape.gateOut (h : Hdr) (fleet : Nat) : Shape.Statement (.gateOut h fleet) :=
  ⟨_, rfl, rfl, fun _ => rfl⟩

theorem Shape.laneEntry (h : Hdr) (fleet : Nat) (lane : Nat) : Shape.Statement (.laneEntry h fleet lane) :=
  ⟨_, rfl, rfl, fun _ => rfl⟩

theorem Shape.laneContent (h : Hdr) (lane : Nat) (count : Nat) (fleets : List Nat) :
    Shape.Statement (.laneContent h lane count fleets) := by
  refine ⟨.laneContent, rfl, rfl, fun hc => ?_⟩
  have e := hc h lane count fleets rfl
  simp only [List.length_cons, flatMap_wordBytes_length, Instr.bodyLength, e]
  omega

theorem Shape.plug (h : Hdr) (fleet : Nat) (yes : Nat) : Shape.Statement (.plug h fleet yes) :=
  ⟨_, rfl, rfl, fun _ => rfl⟩

theorem Shape.energyReport (h : Hdr) (fleet : Nat) (level : Nat) : Shape.Statement (.energyReport h fleet level) :=
  ⟨_, rfl, rfl, fun _ => rfl⟩

theorem Shape.stationState (h : Hdr) (unitCode : Nat) (reported : Nat) :
    Shape.Statement (.stationState h unitCode reported) :=
  ⟨_, rfl, rfl, fun _ => rfl⟩

theorem Shape.serviceDone (h : Hdr) (unitCode : Nat) (fleet : Nat) (result : Nat) (level : Nat) :
    Shape.Statement (.serviceDone h unitCode fleet result level) :=
  ⟨_, rfl, rfl, fun _ => rfl⟩

theorem Shape.minuteEvent : Shape.Statement (.minuteEvent) := rfl

theorem Shape.allotmentPassCompletion : Shape.Statement (.allotmentPassCompletion) := rfl

theorem Shape.staleMeter (fleet : Nat) : Shape.Statement (.staleMeter fleet) := rfl

theorem Shape.placementOverdue (fleet : Nat) : Shape.Statement (.placementOverdue fleet) := rfl

theorem Shape.turnOverrun (u : UnitId) : Shape.Statement (.turnOverrun u) := rfl

theorem Shape.lapse (duty : Nat) : Shape.Statement (.lapse duty) := rfl

theorem Shape.configSaveCompletion (ok : Bool) : Shape.Statement (.configSaveCompletion ok) := rfl

theorem Shape.configLoadCompletion (answers : Bool) : Shape.Statement (.configLoadCompletion answers) := rfl

theorem Shape.powerUp (straps : Straps) (answers : Bool) : Shape.Statement (.powerUp straps answers) := rfl

theorem Shape.resetLineAssertion : Shape.Statement (.resetLineAssertion) := rfl

theorem Shape.resetLineRelease (straps : Straps) (answers : Bool) :
    Shape.Statement (.resetLineRelease straps answers) := rfl

theorem Shape.characterReceived (p : PortId) (c : Byte) (framingError : Bool) :
    Shape.Statement (.characterReceived p c framingError) := rfl

end Sys2Proof.Laws
end

