-- ==== Sys2Proof/Laws/Requests.lean ====
section
/-! SUPPORT. How a request is taken and answered, said once: the tests that let it through, what taking it changes, and what
its reply changes. -/

namespace Sys2Proof.Machine

/-! ### The tests (R163, R164, R174, R176) -/

/-- The access table and the test of step 2 agree. -/
theorem allowed_eq_mayUse (k : ReqKind) (p : PortId) : k.allowed p = mayUse k.code p := by
  cases k <;> cases p <;> rfl

theorem lockable_iff (k : ReqKind) : k.lockable = true ↔ k.code ∈ lockedCodes := by
  cases k <;> decide

theorem refusalBefore_badForm (h : Hdr) (k : ReqKind) (s : State) : refusalBefore h k false s = some .badForm := rfl

theorem refusalBefore_notPermitted (h : Hdr) (k : ReqKind) (s : State) (hp : mayUse k.code h.port = false) :
    refusalBefore h k true s = some .notPermitted := by
  simp [refusalBefore, allowed_eq_mayUse, hp]

theorem refusalBefore_locked (h : Hdr) (k : ReqKind) (s : State) (hp : mayUse k.code h.port = true)
    (hl : h.lock = true) (hk : k.code ∈ lockedCodes) : refusalBefore h k true s = some .locked := by
  simp [refusalBefore, allowed_eq_mayUse, hp, hl, (lockable_iff k).2 hk]

/-- Past the lock, the configuration operation in flight decides (R164 step 4). -/
theorem refusalBefore_op (h : Hdr) (k : ReqKind) (s : State) (hp : mayUse k.code h.port = true)
    (hl : h.lock = true → k.code ∉ lockedCodes) :
    refusalBefore h k true s = if s.store.op.admits k.code = true then none else some .busy := by
  have hlk : (h.lock && k.lockable) = false := by
    rcases hh : h.lock with _ | _
    · rfl
    · simpa using fun e => hl hh ((lockable_iff k).1 e)
  simp only [refusalBefore, allowed_eq_mayUse, hp, hlk]
  rcases s.store.op with _ | x | _ <;> cases k <;> rfl

theorem refusalBefore_clear (h : Hdr) (k : ReqKind) (s : State) (hc : Clear h k.code s) :
    refusalBefore h k true s = none := by
  rw [refusalBefore_op h k s hc.2.1 hc.2.2.1, if_pos hc.2.2.2]

/-! ### Taking a request (R161, R174) -/

/-- Ending a reply changes the ports alone (R161). -/
theorem endReply_eq (p : PortId) (s : State) : s.endReply p = { s with ports := (s.endReply p).ports } := by
  simp only [State.endReply]
  split <;> rfl

theorem endReply_port (p : PortId) (s : State) :
    (s.endReply p).port p = if (s.port p).tx = none then s.port p
      else { s.port p with tx := none, fifo := (s.port p).fifo.tail } := by
  simp only [State.endReply]
  split
  · rename_i h
    rw [if_pos h]
  · rename_i h
    rw [if_neg (by rw [h]; exact Option.some_ne_none _), State.port_modPort_self]

theorem endReply_port_other (p q : PortId) (s : State) (h : q ≠ p) : (s.endReply p).port q = s.port q := by
  simp only [State.endReply]
  split
  · rfl
  · exact State.port_modPort_other p q _ s h

/-- Taking a request changes the ports, and the LOCK strap as it is read. -/
theorem takeRequest_eq (h : Hdr) (code : Nat) (s : State) :
    s.takeRequest h code =
      { s with pins := { s.pins with lock := h.lock }, ports := (s.takeRequest h code).ports } := by
  simp only [State.takeRequest]
  rw [endReply_eq]
  rfl

theorem takeRequest_port_other (h : Hdr) (code : Nat) (s : State) (q : PortId) (hq : q ≠ h.port) :
    (s.takeRequest h code).port q = s.port q := by
  simp only [State.takeRequest, State.setPins_port]
  rw [State.port_modPort_other _ _ _ _ hq, endReply_port_other _ _ _ hq]

/-- The port of a request as it is taken: the earlier reply is gone, the request holds its place, and the queue of notices and
the flags are as they were. -/
theorem takeRequest_port (h : Hdr) (code : Nat) (s : State) :
    let x := s.port h.port
    let y := (s.takeRequest h code).port h.port
    y.tx = none ∧ y.fifo ≠ [] ∧ y.rx = x.rx ∧ y.notices = x.notices ∧ y.overflowed = x.overflowed ∧
    y.overrun = x.overrun ∧ y.fifo.length ≤ max 1 x.fifo.length := by
  simp only [State.takeRequest, State.setPins_port, State.port_modPort_self, endReply_port]
  split
  · rename_i ht
    simp only [Port.holdHead]
    split
    · exact ⟨ht, by simp, rfl, rfl, rfl, rfl, by simp⟩
    · rename_i hf
      exact ⟨ht, by simp [hf], rfl, rfl, rfl, rfl, by omega⟩
  · simp only [Port.holdHead]
    split
    · exact ⟨rfl, by simp, rfl, rfl, rfl, rfl, by simp⟩
    · rename_i hf
      refine ⟨rfl, by simp [hf], rfl, rfl, rfl, rfl, ?_⟩
      simp only [List.length_tail]
      omega

/-! ### The reply (R165) -/

theorem respond_port (h : Hdr) (code : Nat) (a : Answer) (s : State) :
    (s.respond h code a).port h.port =
      { s.port h.port with tx := some ⟨code, s.status h.port, a⟩, overrun := false } := by
  simp only [State.respond, State.reply, State.port_modPort_self]

theorem respond_port_other (h : Hdr) (code : Nat) (a : Answer) (s : State) (q : PortId) (hq : q ≠ h.port) :
    (s.respond h code a).port q = s.port q := State.port_modPort_other _ _ _ _ hq

/-- A reply changes the ports alone. -/
theorem respond_eq (h : Hdr) (code : Nat) (a : Answer) (s : State) :
    s.respond h code a = { s with ports := (s.respond h code a).ports } := rfl

/-! ### A whole request -/

theorem discards_eq_false {h : Hdr} {s : State} (ht : Taken h s) : s.discards h = false := by
  simp only [State.discards, Bool.and_eq_false_iff, beq_eq_false_iff_ne]
  by_cases hp : h.port = .dispatch
  · exact .inl (ht.2 hp)
  · exact .inr hp

/-- What a running part makes of a request that it takes. -/
theorem taking_taken (h : Hdr) (work : State → State) (s : State) (ht : Taken h s) :
    s.taking h work = .next (work s) := by
  simp [State.taking, ht.1, discards_eq_false ht]

/-- Once a RESTART has been answered, a request of its port is discarded by the reset (R171). -/
theorem taking_discarded (h : Hdr) (work : State → State) (s : State) (hr : s.power = .running)
    (hp : h.port = .dispatch) (hs : s.restartPending = true) : s.taking h work = .next s.restarted := by
  simp [State.taking, State.discards, hr, hp, hs]

theorem taking_held (h : Hdr) (work : State → State) (s : State) (hr : s.power = .held) :
    s.taking h work = .next s := by
  simp only [State.taking, hr]

/-- What a request that is taken comes to. -/
theorem request_taken (h : Hdr) (k : ReqKind) (formOk : Bool) (work : State → State × Answer) (s : State)
    (ht : Taken h s) :
    s.request h k formOk work = .next (
      match refusalBefore h k formOk (s.takeRequest h k.code) with
      | some c => (s.takeRequest h k.code).respond h k.code (.refuse c)
      | none => ((work (s.takeRequest h k.code)).1).respond h k.code (work (s.takeRequest h k.code)).2) :=
  taking_taken h _ s ht

/-- A request that passes its tests does the work of its rule. -/
theorem request_clear (h : Hdr) (k : ReqKind) (formOk : Bool) (work : State → State × Answer) (s : State)
    (hf : formOk = true) (hc : Clear h k.code s) :
    s.request h k formOk work =
      .next ((work (s.takeRequest h k.code)).1.respond h k.code (work (s.takeRequest h k.code)).2) := by
  have hc' : Clear h k.code (s.takeRequest h k.code) := by
    rw [takeRequest_eq]
    exact hc
  rw [request_taken h k formOk work s hc.1, hf, refusalBefore_clear h k _ hc']

/-- Every request answers a next state: the part as it was, the part restarted, or the part with the request answered. -/
theorem request_next (h : Hdr) (k : ReqKind) (formOk : Bool) (work : State → State × Answer) (s : State) :
    ∃ t, s.request h k formOk work = .next t ∧
      (t = s ∨ t = s.restarted ∨ (∃ c, t = (s.takeRequest h k.code).respond h k.code (.refuse c)) ∨
        t = ((work (s.takeRequest h k.code)).1).respond h k.code (work (s.takeRequest h k.code)).2) := by
  simp only [State.request, State.taking]
  split
  · exact ⟨_, rfl, .inl rfl⟩
  · split
    · exact ⟨_, rfl, .inr (.inl rfl)⟩
    · split
      · exact ⟨_, rfl, .inr (.inr (.inl ⟨_, rfl⟩))⟩
      · exact ⟨_, rfl, .inr (.inr (.inr rfl))⟩

/-- A request that is taken, and whose work keeps the yard's frame, keeps what SameControl and SameLines say. -/
theorem request_kept (h : Hdr) (k : ReqKind) (formOk : Bool) (work : State → State × Answer) (s t : State)
    (hs : Taken h s) (hw : ∀ x, Kept x (work x).1) (ht : s.request h k formOk work = .next t) :
    SameControl s t ∧ SameLines h.port s t ∧ (∀ l, (t.lane l).defn = (s.lane l).defn) := by
  have taken : ∀ x, Kept (s.takeRequest h k.code) x → ∀ a, t = x.respond h k.code a →
      SameControl s t ∧ SameLines h.port s t ∧ (∀ l, (t.lane l).defn = (s.lane l).defn) := by
    intro x hx a ha
    have hc : SameControl s (s.takeRequest h k.code) := by
      rw [takeRequest_eq]
      exact ⟨rfl, ⟨rfl, rfl⟩, rfl, rfl, rfl, rfl, rfl, rfl⟩
    have hd : SameControl x (x.respond h k.code a) := ⟨rfl, ⟨rfl, rfl⟩, rfl, rfl, rfl, rfl, rfl, rfl⟩
    subst ha
    refine ⟨(hc.trans hx.control).trans hd, fun q hq => ?_, fun l => ?_⟩
    · rw [respond_port_other _ _ _ _ _ hq, ← takeRequest_port_other h k.code s q hq]
      exact hx.lines q
    · have hl := hx.lanes l
      rw [takeRequest_eq] at hl
      exact hl
  rw [request_taken h k formOk work s hs] at ht
  split at ht
  · exact taken _ (.refl _) _ (by injection ht with e; exact e.symm)
  · exact taken _ (hw _) _ (by injection ht with e; exact e.symm)

/-! ### Events -/

theorem event_running (work : State → State) (s : State) (hr : s.power = .running) : s.event work = .next (work s) := by
  simp only [State.event, hr]

theorem event_held (work : State → State) (s : State) (hr : s.power = .held) : s.event work = .next s := by
  simp only [State.event, hr]

theorem event_next (work : State → State) (s : State) : ∃ t, s.event work = .next t := by
  rcases hr : s.power with _ | _
  · exact ⟨_, event_running work s hr⟩
  · exact ⟨_, event_held work s hr⟩

/-! ### Lengths of reply fields (R160, R172) -/

@[simp] theorem b1_length (n : Nat) : (b1 n).length = 1 := rfl
@[simp] theorem flagByte_length (b : Bool) : (flagByte b).length = 1 := rfl
@[simp] theorem wordBytes_length (n : Nat) : (wordBytes n).length = 2 := rfl
@[simp] theorem distanceBytes_length (d : Nat) : (distanceBytes d).length = 2 := rfl
@[simp] theorem Notice.bytes_length (n : Notice) : n.bytes.length = 13 := rfl

theorem locationBytes_length (x : Location) : 1 ≤ (locationBytes x).length ∧ (locationBytes x).length ≤ 3 := by
  cases x <;> simp [locationBytes]

/-- An optional field takes its presence byte, and its own bytes where it is present. -/
theorem optionBytes_length {α : Type} (f : α → List Byte) (n : Nat) (h : ∀ x, (f x).length = n) (o : Option α) :
    (optionBytes f o).length = if o.isSome then 1 + n else 1 := by
  cases o <;> simp [optionBytes, h]

/-- A list takes its count byte and its entries. -/
theorem listBytes_length {α : Type} (f : α → List Byte) (n : Nat) (h : ∀ x, (f x).length = n) (l : List α) :
    (listBytes f l).length = 1 + n * l.length := by
  have e : (l.flatMap f).length = n * l.length := by
    induction l with
    | nil => rfl
    | cons a l ih => simp only [List.flatMap_cons, List.length_append, h, ih, List.length_cons, Nat.mul_succ]; omega
  simp [listBytes, e]

end Sys2Proof.Machine
end

