-- ==== Sys2Proof/Tests/Slice0.lean ====
section
/-! SUPPORT. Our own tests: ill-formed terms that the well-formedness check refuses, request bodies written out from the
tables of the spec, worked values of the spec, and for every statement with hypotheses a state and operands that meet them,
clause by clause and at the ends of the ranges. -/

namespace Sys2Proof.Tests

open Sys2Proof.Machine

/-! ### Small states and headers -/

def dsp (n : Nat) : Hdr := ⟨.dispatch, n, false⟩
def gat (n : Nat) : Hdr := ⟨.gate, n, false⟩
def svc (n : Nat) : Hdr := ⟨.service, n, false⟩

/-- The state after a command, and the state itself where there is none. -/
def after (c : Instr) (s : State) : State :=
  match exec c s with
  | .next t => t
  | .fault _ => s
  | .refused _ => s

/-- A lane: DEADEND or THROUGH, 20 m, equipped, 50 kW, group 1, open. -/
def laneDef (k : LaneKind) : LaneDef := ⟨k, 20, true, 50, 0, false, false, true⟩

def bus (f : Nat) (st : VState) : Vehicle :=
  { Vehicle.fresh f .standard .battery 2500 2000 1 with state := st, level := 1000 }

def fuelBus (f : Nat) (st : VState) : Vehicle := { Vehicle.fresh f .midi .fuel 100 100 0 with state := st, level := 50 }

def duty (n due : Nat) (st : DutyState) : Duty :=
  { number := n, day := .current, due := due, cls := none, kind := none, minLevel := 500, wash := false, high := false
    state := st, binding := none, departed := none, uncovered := false, notReady := false, shuntNeeded := false
    lowEnergy := false }

def note (k : NoticeKind) : Notice := ⟨k, 0, none, none, none, none, none⟩

/-- 10:00 of day 3, one THROUGH lane (1) and one DEADEND lane (2); lane 1 holds 101, which is plugged; 102 is PLACING there; 103
is on the apron; 104 is ABSENT; 105 is on W1; duty 7 is OPEN, and 8 is BOUND to 101. -/
def yard : State :=
  { State.reset with
    clock := ⟨600, 3, false, 180, 0⟩
    lanes := (State.reset.lanes.set 0 ⟨laneDef .through, [101], [102]⟩).set 1 ⟨laneDef .deadend, [], []⟩
    fleet := [{ bus 101 .parked with plugged := true, binding := some ⟨8, false⟩, lastReport := some 590 },
      { bus 102 .placing with placedAt := some 580 }, bus 103 .apron, bus 104 .absent,
      { bus 105 .servicing with route := [.wash] }]
    apron := [103]
    stations := { Stations.reset with w1 := ⟨.occupied, some 105, some 1, 0, false, false⟩ }
    duties := [duty 7 700 .openState, { duty 8 720 .bound with binding := some ⟨101, false⟩ }] }

/-- The small yard without its lanes. -/
def noLanes : State := yard.setLanes State.reset.lanes

/-- The small yard with duty 8 called. -/
def calledYard : State :=
  ((yard.modVehicle 101 (fun v => { v with state := .called })).modDuty 8 (fun d => { d with state := .called })).setWindow
    [⟨8, 101, 0, false⟩]

/-! ### Ill-formed terms are refused -/

theorem test_wf_empty_body : (Instr.telegramReceived .gate [] 0).wf = false := by decide
theorem test_wf_long_body : (Instr.telegramReceived .gate (List.replicate 61 0) 0).wf = false := by decide
theorem test_wf_longest_body : (Instr.telegramReceived .gate (List.replicate 60 0) 0).wf = true := by decide
theorem test_wf_header_zero : (Instr.readStatus (dsp 0)).wf = false := by decide
theorem test_wf_header_long : (Instr.readStatus (dsp 61)).wf = false := by decide
theorem test_wf_code : (Instr.unknownKindRequest (dsp 1) 256).wf = false := by decide
theorem test_wf_fleet_word : (Instr.readVehicle (dsp 3) 65536).wf = false := by decide
theorem test_wf_lane_byte : (Instr.readLane (dsp 2) 256).wf = false := by decide
theorem test_wf_duty_word : (Instr.readDutyOne (dsp 4) 65536).wf = false ∧ (Instr.readDutyList (dsp 4) 65536).wf = false := by
  decide
theorem test_wf_grants : (Instr.readGrantsGrants (dsp 5) 256 0).wf = false ∧ (Instr.readGrantsGrants (dsp 5) 0 65536).wf = false := by
  decide
theorem test_wf_station : (Instr.readStation (dsp 2) 256).wf = false := by decide
theorem test_wf_clock : (Instr.setClock (dsp 5) 65536 0).wf = false ∧ (Instr.setClock (dsp 5) 0 65536).wf = false := by decide
theorem test_wf_param : (Instr.setParam (dsp 4) 256 0).wf = false ∧ (Instr.setParam (dsp 4) 0 65536).wf = false := by decide
theorem test_wf_limits : (Instr.setLimits (dsp 11) 0 0 0 0 65536).wf = false ∧ (Instr.setLimits (dsp 11) 65536 0 0 0 0).wf = false := by
  decide
theorem test_wf_schedule : (Instr.setSchedulePut (dsp 6) 0 65536).wf = false ∧ (Instr.setScheduleRemove (dsp 4) 65536).wf = false := by
  decide
theorem test_wf_lane_fields : (Instr.defineLane (dsp 11) ⟨1, 1, 20, 1, 65536, 1, 0, 0, 1⟩).wf = false ∧
    (Instr.defineLane (dsp 11) ⟨1, 1, 256, 1, 50, 1, 0, 0, 1⟩).wf = false := by decide
theorem test_wf_register : (Instr.registerVehicle (dsp 9) 1 256 1 0 0).wf = false ∧ (Instr.registerVehicle (dsp 9) 1 1 1 0 65536).wf = false := by
  decide
theorem test_wf_hold_on_is_not_zero : (Instr.setHoldOn (dsp 4) 1 0).wf = false := by decide
theorem test_wf_duty_fields : (Instr.loadDuty (dsp 12) ⟨1, 1, 65536, 5, 3, 0, 0, 1⟩).wf = false ∧
    (Instr.loadDuty (dsp 12) ⟨1, 1, 0, 5, 3, 0, 256, 1⟩).wf = false := by decide
theorem test_wf_gate : (Instr.gateIn (gat 6) 1 65536 0).wf = false ∧ (Instr.gateOut (gat 3) 65536).wf = false := by decide
theorem test_wf_lane_reports : (Instr.laneEntry (svc 4) 1 256).wf = false ∧ (Instr.laneContent (svc 5) 1 1 [65536]).wf = false := by
  decide
theorem test_wf_service : (Instr.plug (svc 4) 1 256).wf = false ∧ (Instr.energyReport (svc 5) 1 65536).wf = false ∧
    (Instr.stationState (svc 3) 256 1).wf = false ∧ (Instr.serviceDone (svc 7) 0x31 1 256 0).wf = false := by decide
theorem test_wf_events : (Instr.staleMeter 65536).wf = false ∧ (Instr.placementOverdue 65536).wf = false ∧ (Instr.lapse 65536).wf = false := by
  decide

/-! ### Request bodies written out from R163 and R172 -/

theorem test_body_gate_in : decodeRequest .gate false [0x20, 0x0D, 0xFF, 0x05, 0xAA, 0x00] = .gateIn (gat 6) 3583 1450 0 := by decide
theorem test_body_set_param : decodeRequest .dispatch true [0x11, 0x06, 0x00, 0x02] = .setParam ⟨.dispatch, 4, true⟩ 6 2 := by decide
theorem test_body_lane_content :
    decodeRequest .service false [0x31, 0x15, 0x02, 0x0C, 0x1E, 0x11, 0x3A] = .laneContent (svc 7) 21 2 [3102, 4410] := by decide
theorem test_body_service_done :
    decodeRequest .service false [0x35, 0x31, 0x00, 0x65, 0x01, 0x00, 0x00] = .serviceDone (svc 7) 0x31 101 1 0 := by decide
theorem test_body_schedule_form : decodeRequest .dispatch false [0x13, 0x04] = .unknownKindRequest (dsp 2) 0x13 := by decide
theorem test_body_unknown_kind : decodeRequest .dispatch false [0x08] = .unknownKindRequest (dsp 1) 0x08 := by decide

/-- The well-known check value of this code over the nine digits 1 to 9 (no value for it stands in the spec). -/
theorem test_check_of_nine_digits : checkOf [0x31, 0x32, 0x33, 0x34, 0x35, 0x36, 0x37, 0x38, 0x39] = 0x29B1 := by decide +kernel

/-! ### Steps on the small yard -/

theorem test_gate_out_absent : (after (.gateOut (gat 3) 104) yard).answerOn .gate = some (.refuse .stateConflict) := by decide
theorem test_gate_in_lane_choice :
    ((after (.gateIn (gat 6) 104 1500 0) yard).vehicle? 104).map (fun v => (v.state, v.level)) = some (.placing, 1500) := by decide
theorem test_lane_entry_parks : ((after (.laneEntry (svc 4) 102 1) yard).lane 0).parked = [101, 102] := by decide
theorem test_lane_entry_deadend_front : ((after (.laneEntry (svc 4) 103 2) yard).lane 1).parked = [103] := by decide
theorem test_survey_missing_is_absent :
    ((after (.laneContent (svc 5) 1 1 [102]) yard).vehicle? 101).map Vehicle.state = some .absent := by decide
theorem test_energy_crossing_zeroes_grant :
    ((after (.energyReport (svc 5) 101 2000) yard).vehicle? 101).map (fun v => (v.level, v.grant)) = some (2000, 0) := by decide
theorem test_wash_done_leaves_unit : (after (.serviceDone (svc 7) 0x31 105 1 0) yard).unit .w1 = StationUnit.vacant .ready := by
  decide
theorem test_fuel_done_is_mismatched_unit :
    (after (.serviceDone (svc 7) 0x32 105 1 0) yard).answerOn .service = some (.refuse .stateConflict) := by decide
theorem test_turn_overrun_counts : ((after (.turnOverrun .w1) yard).unit .w1).overruns = 1 := by decide
theorem test_bind_open_duty : ((after (.bindDuty (dsp 5) 7 103) yard).duty? 7).map Duty.state = some .bound := by decide
theorem test_unbind_opens : ((after (.unbindDuty (dsp 3) 8) yard).duty? 8).map Duty.state = some .openState := by decide
theorem test_lapse_not_due : (after (.lapse 8) yard).duty? 8 = yard.duty? 8 := by decide
theorem test_attention_threshold_midway : attentionStep 6 = 8 ∧ attentionStep 5 = 4 ∧ attentionStep 33 = 32 := by decide
theorem test_budgets_leftover : groupBudgets [30, 30, 30, 0] 50 = [17, 17, 16, 0] := by decide
theorem test_tick_wraps_the_day : (⟨1439, 65535, false, 180, 0⟩ : Clock).tick = ⟨0, 0, false, 180, 0⟩ := by decide

/-! ### Witnesses: what the hypotheses of the statements admit

Each theorem gives a state and operands that meet the hypotheses of one statement together, clause by clause. -/

def withPort (p : PortId) (x : Port) : State := yard.modPort p (fun _ => x)
def withOp (op : ConfigOp) : State := yard.setStore { yard.store with op := op }
def anImage : Image := ⟨Params.default, Limits.zero, [], Vector.replicate 24 LaneDef.default, []⟩
def aReply : Reply := ⟨1, ⟨0, true, false, false, false⟩, .accept .none⟩

theorem test_wit_StepRunsFrontCommand : (yard.setPending [.minuteEvent]).pending = .minuteEvent :: [] := rfl
theorem test_wit_StepRunsFrontCommand_held : (yard.setPower .held).pending = [] ∧ (yard.setPower .held).power = .held := by decide
theorem test_wit_StepRunsFrontCommand_restart :
    let s := yard.setRestartPending true
    s.pending = [] ∧ s.power = .running ∧ s.restartPending = true ∧ (s.port .dispatch).tx = none := by decide
/-- Gate and Service both hold a request, and Dispatch none. -/
theorem test_wit_StepRunsFrontCommand_gate :
    let s := (withPort .gate { Port.reset with fifo := [[0x01]] }).modPort .service (fun x => { x with fifo := [[0x02]] })
    s.pending = [] ∧ s.power = .running ∧ s.restartPending = false ∧ (s.port .dispatch).fifo = [] ∧
    (s.port .gate).tx = none ∧ (s.port .gate).fifo.head? = some [0x01] ∧ (s.port .service).fifo.head? = some [0x02] := by decide
theorem test_wit_StepRunsFrontCommand_dispatch :
    let s := (withPort .gate { Port.reset with fifo := [[0x01]] }).modPort .dispatch (fun x => { x with fifo := [[0x02]] })
    s.pending = [] ∧ s.power = .running ∧ s.restartPending = false ∧ (s.port .dispatch).tx = none ∧
    (s.port .dispatch).fifo.head? = some [0x02] := by decide
/-- The reply to a RESTART is under way, and nothing else waits. -/
theorem test_wit_StepRunsFrontCommand_replying :
    let s := (withPort .dispatch { Port.reset with fifo := [[0x1E]], tx := some aReply }).setRestartPending true
    s.pending = [] ∧ s.power = .running ∧ (s.port .dispatch).tx ≠ none ∧ (s.port .gate).fifo = [] ∧ (s.port .service).fifo = [] := by
  decide

theorem test_wit_RequestsRefusedInOrder_unknown : Taken (dsp 1) yard := ⟨rfl, fun _ => rfl⟩
theorem test_wit_RequestsRefusedInOrder_form :
    let c : Instr := .readStatus (dsp 2)
    c.hdr? = some (dsp 2) ∧ c.kind? = some .readStatus ∧ Taken (dsp 2) yard ∧ (dsp 2).len ≠ c.bodyLength := by
  unfold Taken
  decide
theorem test_wit_RequestsRefusedInOrder_count :
    let c : Instr := .laneContent (svc 37) 1 17 []
    c.hdr? = some (svc 37) ∧ c.kind? = some .laneContent ∧ Taken (svc 37) yard ∧ (svc 37).len = c.bodyLength ∧
    c.countOk = false := by
  unfold Taken
  decide
theorem test_wit_RequestsRefusedInOrder_count_16 : (Instr.laneContent (svc 35) 1 16 []).countOk = true := by decide
theorem test_wit_RequestsRefusedInOrder_port :
    let c : Instr := .gateOut (dsp 3) 104
    c.hdr? = some (dsp 3) ∧ c.kind? = some .gateOut ∧ Taken (dsp 3) yard ∧ (dsp 3).len = c.bodyLength ∧
    c.countOk = true ∧ mayUse ReqKind.gateOut.code .dispatch = false := by
  unfold Taken
  decide
theorem test_wit_RequestsRefusedInOrder_locked :
    let h : Hdr := ⟨.dispatch, 4, true⟩
    let c : Instr := .setParam h 6 2
    c.hdr? = some h ∧ c.kind? = some .setParam ∧ Taken h yard ∧ h.len = c.bodyLength ∧ c.countOk = true ∧
    mayUse ReqKind.setParam.code h.port = true ∧ h.lock = true ∧ ReqKind.setParam.code ∈ lockedCodes := by
  unfold Taken
  decide
theorem test_wit_RequestsRefusedInOrder_busy :
    let c : Instr := .restart (dsp 1)
    c.hdr? = some (dsp 1) ∧ c.kind? = some .restart ∧ Taken (dsp 1) (withOp (.saving anImage)) ∧
    (dsp 1).len = c.bodyLength ∧ c.countOk = true ∧ mayUse ReqKind.restart.code .dispatch = true ∧
    ((dsp 1).lock = true → ReqKind.restart.code ∉ lockedCodes) ∧
    (withOp (.saving anImage)).store.op.admits ReqKind.restart.code = false := by
  unfold Taken
  decide

theorem test_wit_ReplyReportsThePort_idle : yard.power = .running ∧ (yard.port .gate).tx = none := by decide
theorem test_wit_ReplyReportsThePort_sending :
    let s := withPort .gate { Port.reset with fifo := [[0x01], [0x02]], tx := some aReply }
    s.power = .running ∧ (s.port .gate).tx ≠ none ∧ (s.port .gate).fifo.tail ≠ [] := by decide
theorem test_wit_ReplyReportsThePort_head :
    let s := withPort .gate { Port.reset with fifo := [[0x01]] }
    (s.port .gate).tx = none ∧ (s.port .gate).fifo ≠ [] := by decide

theorem test_wit_ReadsAnswer :
    Clear (gat 1) 0x01 yard ∧ Clear (gat 3) 0x03 yard ∧ Clear (gat 2) 0x04 yard ∧ Clear (gat 4) 0x05 yard := by
  unfold Clear Taken
  decide
theorem test_wit_ReadsAnswer_lists : Clear (gat 5) 0x06 yard ∧ Clear (gat 2) 0x06 yard ∧ Clear (gat 2) 0x07 yard := by
  unfold Clear Taken
  decide
theorem test_wit_ReadsAnswer_lane_numbers : laneOf? 0 = none ∧ laneOf? 1 = some 0 ∧ laneOf? 24 = some 23 ∧ laneOf? 25 = none := by decide
theorem test_wit_ReadsAnswer_found : yard.vehicle? 101 ≠ none ∧ yard.vehicle? 9 = none ∧ yard.duty? 7 ≠ none ∧ yard.duty? 9 = none ∧
    station? 0x38 = some .wash ∧ station? 0x3A = none := by decide

theorem test_wit_NoticeTaken : Taken (gat 1) yard ∧ (gat 1).len = 1 ∧ (yard.port .gate).notices = [] := by
  unfold Taken
  decide
theorem test_wit_NoticeTaken_waiting :
    ((withPort .gate { Port.reset with notices := [note .call, note .route] }).port .gate).notices =
      note .call :: [note .route] := by decide

theorem test_wit_ReceiverStates_hunt : yard.power = .running ∧ (yard.port .gate).rx = .hunt := by decide
theorem test_wit_ReceiverStates_length :
    ((withPort .gate { Port.reset with rx := .length }).port .gate).rx = .length ∧ Within 1 60 (1 : Byte).toNat ∧
    Within 1 60 (60 : Byte).toNat ∧ ¬ Within 1 60 (0 : Byte).toNat ∧ ¬ Within 1 60 (61 : Byte).toNat := by
  unfold Within
  decide
theorem test_wit_ReceiverStates_body :
    ((withPort .gate { Port.reset with rx := .body 2 [] }).port .gate).rx = .body 2 [] ∧ ([] : List Byte).length + 1 < 2 ∧
    ((withPort .gate { Port.reset with rx := .body 2 [7] }).port .gate).rx = .body 2 [7] ∧ 2 = ([7] : List Byte).length + 1 := by
  decide
theorem test_wit_ReceiverStates_check :
    ((withPort .gate { Port.reset with rx := .check [7] none }).port .gate).rx = .check [7] none ∧
    ((withPort .gate { Port.reset with rx := .check [7] (some 1) }).port .gate).rx = .check [7] (some 1) := by decide

theorem test_wit_TelegramTested :
    yard.power = .running ∧ Within 1 60 ([0x01] : List Byte).length ∧ (yard.port .gate).fifo.length < 4 ∧
    Within 1 60 (List.replicate 60 (0 : Byte)).length := by
  unfold Within
  decide
theorem test_wit_TelegramTested_full :
    let s := withPort .gate { Port.reset with fifo := [[1], [1], [1], [1]] }
    s.power = .running ∧ 4 ≤ (s.port .gate).fifo.length ∧
    ((withPort .gate { Port.reset with fifo := [[1], [1], [1]] }).port .gate).fifo.length < 4 := by decide
theorem test_wit_TelegramTested_wrong_check : (0 : Check) ≠ telegramCheck [0x01] := by decide +kernel
theorem test_wit_CharactersMakeTheTelegram :
    yard.power = .running ∧ (yard.port .gate).rx = .hunt ∧ Within 1 60 ([0x20] : List Byte).length := by
  unfold Within
  decide
theorem test_wit_DamagedByteDiscarded :
    yard.power = .running ∧ (0x20 : Byte) ≠ 0x21 ∧ Within 1 60 ([1] ++ (0x20 : Byte) :: [2]).length := by
  unfold Within
  decide

theorem test_wit_NoticePosted : ([.gate, .dispatch] : List PortId).Nodup ∧ PortId.service ∉ ([.gate, .dispatch] : List PortId) ∧
    PortId.gate ∈ ([.gate, .dispatch] : List PortId) := by decide
theorem test_wit_NoticePosted_room :
    ((withPort .gate { Port.reset with notices := List.replicate 31 (note .route) }).port .gate).notices.length < 32 ∧
    32 ≤ ((withPort .gate { Port.reset with notices := List.replicate 32 (note .route) }).port .gate).notices.length := by decide
theorem test_wit_AttentionLine_steps : IsStep 4 ∧ IsStep 32 ∧ ¬ IsStep 6 ∧ ¬ IsStep 36 := by
  unfold IsStep Within
  decide
theorem test_wit_AttentionLine_urgent : (note .call).kind.urgent = true ∧ (note .route).kind.urgent = false := by decide
theorem test_wit_AttentionLine_32 :
    let s := (withPort .gate { Port.reset with notices := [note .yardFull] }).setParams { Params.default with attnGate := 32 }
    s.params.attention .gate = 32 ∧ (s.port .gate).notices.length ≤ 32 ∧ s.attention .gate = true := by decide

theorem test_wit_MinuteBoundary_unset : State.reset.power = .running ∧ State.reset.clock.unset = true := by decide
theorem test_wit_MinuteBoundary_set :
    yard.power = .running ∧ yard.clock.unset = false ∧ yard.clock.minute < 1440 ∧ yard.clock.day < 65536 := by decide
theorem test_wit_MinuteBoundary_rollover :
    let s := yard.setClockFields ⟨179, 65535, false, 180, 0⟩
    s.clock.unset = false ∧ s.clock.minute < 1440 ∧ (s.clock.minute + 1) % 1440 = s.clock.sEff := by decide
theorem test_wit_MinuteBoundary_day :
    let s := yard.setClockFields ⟨1439, 65535, false, 0, 0⟩
    s.clock.minute = 1439 ∧ (s.clock.minute + 1) % 1440 = s.clock.sEff := by decide

theorem test_wit_ClockSet : Clear (dsp 5) 0x10 yard ∧ (dsp 5).len = 5 ∧ 65535 < 65536 ∧ yard.clock.day < 65536 := by
  unfold Clear Taken
  decide
theorem test_wit_ClockSet_classes :
    (3 + 65536 - yard.clock.day) % 65536 = 0 ∧ Within 1 32767 ((32770 + 65536 - yard.clock.day) % 65536) ∧
    32767 < (32771 + 65536 - yard.clock.day) % 65536 ∧ yard.clock.minute < 601 ∧ 599 < yard.clock.minute ∧
    State.reset.clock.unset = true := by
  unfold Within
  decide
theorem test_wit_WashDaysAtRollover :
    yard.power = .running ∧ (yard.vehicle? 101).map Vehicle.washDays = some 1 ∧ yard.clock.unset = false ∧
    yard.clock.minute < 1440 ∧ Clear (dsp 5) 0x10 yard ∧ (dsp 5).len = 5 := by
  unfold Clear Taken
  decide

theorem test_wit_ParameterWritten :
    Clear (dsp 4) 0x11 yard ∧ (dsp 4).len = 4 ∧ paramForm? 6 = some (.quantity 1 8) ∧
    ParamForm.store (.quantity 1 8) 9 = .ok 8 ∧ yard.window.length ≤ 8 ∧ paramForm? 1 = some .minute ∧
    paramForm? 22 = some .step4 ∧ paramForm? 0 = none ∧ paramForm? 23 = none := by
  unfold Clear Taken
  decide
theorem test_wit_ParameterWritten_window :
    let s := yard.setWindow [⟨8, 101, 0, false⟩, ⟨7, 102, 0, false⟩]
    Clear (dsp 4) 0x11 s ∧ max 1 (min 8 0) < s.window.length ∧ yard.params.callWindow < 8 ∧ 2 ≤ yard.params.callWindow := by
  unfold Clear Taken
  decide
/-- A lowered and a raised fallback; a wash threshold that the flag agrees with and one that it does not. -/
theorem test_wit_ParameterWritten_effects :
    let s := yard.setStations { yard.stations with washQ := [101, 102] }
    paramForm? 12 = some (.quantity 0 50) ∧ 10 < yard.params.fallback ∧ yard.params.fallback ≤ 11 ∧
    paramForm? 18 = some (.quantity 1 12) ∧ s.stations.long .wash = decide (2 < (s.queue .wash).length) ∧
    s.stations.long .wash ≠ decide (1 < (s.queue .wash).length) ∧ paramForm? 19 = some (.quantity 1 8) := by decide
theorem test_wit_LimitsAndScheduleWritten :
    Clear (dsp 11) 0x12 yard ∧ (dsp 11).len = 11 ∧ Clear (dsp 6) 0x13 yard ∧ ScheduleOk yard.charge.schedule := by
  unfold Clear Taken ScheduleOk Ascending
  decide
theorem test_wit_LimitsAndScheduleWritten_full :
    let l : List SchedEntry := [⟨0, 1⟩, ⟨1, 1⟩, ⟨2, 1⟩, ⟨3, 1⟩, ⟨4, 1⟩, ⟨5, 1⟩, ⟨6, 1⟩, ⟨1439, 4000⟩]
    ScheduleOk l ∧ l.length = 8 ∧ (∀ e ∈ l, e.minute ≠ 7) ∧ (∃ e ∈ l, e.minute = 1439) := by
  unfold ScheduleOk Ascending
  decide

/-- An entry at the next minute; a jump whose span holds it and one whose span does not. -/
theorem test_wit_LimitsAndScheduleWritten_reached :
    let s := yard.setSchedule [⟨601, 50⟩]
    ScheduleOk s.charge.schedule ∧ s.clock.minute < 1440 ∧ s.power = .running ∧ s.clock.unset = false ∧
    Clear (dsp 5) 0x10 s ∧ (601 + 1440 - 601) % 1440 < 1 ∧ (700 + 1440 - 601) % 1440 < 100 ∧ 1 ≤ (600 + 1440 - 601) % 1440 := by
  unfold Clear Taken ScheduleOk Ascending
  decide

theorem test_wit_LaneDefined_empty :
    Clear (dsp 11) 0x14 yard ∧ laneOf? 2 = some 1 ∧ (parseLane ⟨2, 2, 3, 1, 301, 5, 0, 0, 1⟩).isSome = true ∧
    (yard.lane 1).parked = [] ∧ (yard.lane 1).reserved = [] := by
  unfold Clear Taken
  decide
theorem test_wit_LaneDefined_rating :
    parseLane ⟨1, 1, 20, 1, 60, 1, 0, 0, 1⟩ = some { (yard.lane 0).defn with rating := 60, isOpen := true } := by decide
theorem test_wit_LaneDefined_conflict :
    ¬ ((yard.lane 0).parked = [] ∧ (yard.lane 0).reserved = []) ∧
    parseLane ⟨1, 1, 24, 1, 60, 1, 0, 0, 1⟩ ≠ some { (yard.lane 0).defn with rating := 60, isOpen := true } := by decide

/-- Lane 3 is defined anew while 103 waits on the apron. -/
theorem test_wit_LaneDefined_freed :
    ∃ x, parseLane ⟨3, 1, 20, 1, 60, 1, 0, 0, 1⟩ = some x ∧ x.capacity ≠ 0 ∧ x.isOpen = true ∧ (noLanes.lane 2).defn.capacity = 0 ∧
      noLanes.unplaced = [] ∧ noLanes.apron = 103 :: [] ∧ noLanes.vehicle? 103 = some (bus 103 .apron) ∧
      noLanes.reservedLane? 103 = none ∧
      (noLanes.modLane 2 (fun y => { y with defn := x })).laneChoice (bus 103 .apron) = some (2, 2) :=
  ⟨_, rfl, by decide⟩

def fullRegister : State := yard.setFleet ((List.range 192).map (fun n => bus (n + 2) .absent))
theorem test_wit_VehicleRegistered :
    Clear (dsp 9) 0x15 yard ∧ Within 1 9999 9999 ∧ yard.vehicle? 9999 = none ∧ yard.fleet.length < 192 ∧
    (yard.vehicle? 104).map (fun v => (v.state, v.binding)) = some (.absent, none) ∧
    (yard.vehicle? 103).map Vehicle.state = some .apron := by
  unfold Clear Taken Within
  decide
/-- 104 bound while ABSENT, to a duty that asks for STANDARD: the same class, and another. -/
theorem test_wit_VehicleRegistered_bound :
    let s := (yard.modVehicle 104 (fun v => { v with binding := some ⟨7, true⟩ })).modDuty 7
      (fun d => { d with cls := some .standard, binding := some ⟨104, true⟩ })
    (s.vehicle? 104).map (fun v => (v.state, v.binding)) = some (.absent, some ⟨7, true⟩) ∧
    (s.duty? 7).map (fun d => (d.cls, d.kind)) = some (some .standard, none) ∧ VClass.standard ≠ .artic := by decide
theorem test_wit_VehicleRegistered_full : fullRegister.vehicle? 1 = none ∧ 192 ≤ fullRegister.fleet.length := by decide +kernel
theorem test_wit_VehicleRegistered_retire : Clear (dsp 3) 0x16 yard ∧ (dsp 3).len = 3 := by
  unfold Clear Taken
  decide

theorem test_wit_HoldSetAndCleared :
    Clear (dsp 4) 0x17 yard ∧ (dsp 4).len = 4 ∧ (yard.vehicle? 101).map (fun v => (v.held, v.binding)) =
      some (false, some ⟨8, false⟩) ∧ (yard.duty? 8).isSome = true ∧
    (yard.vehicle? 103).map (fun v => (v.held, v.binding, v.state)) = some (false, none, .apron) := by
  unfold Clear Taken
  decide
theorem test_wit_HoldSetAndCleared_held :
    ((yard.modVehicle 103 (fun v => { v with held := true })).vehicle? 103).map Vehicle.held = some true := by decide

theorem test_wit_DutyLoaded :
    Clear (dsp 12) 0x18 yard ∧ (parseDuty ⟨4095, 1, 1439, 5, 3, 65535, 0, 1⟩).isSome = true ∧ Within 1 4095 4095 ∧
    yard.duty? 4095 = none ∧ yard.duties.length < 256 := by
  unfold Clear Taken Within
  decide
/-- Over OPEN 7, over BOUND 8 with a match and with a class that 101 has not, and over a CALLED record. -/
theorem test_wit_DutyLoaded_over :
    (yard.duty? 7).map Duty.state = some .openState ∧
    (yard.duty? 8).map (fun d => (d.state, d.binding)) = some (.bound, some ⟨101, false⟩) ∧
    (yard.vehicle? 101).map (fun v => (v.cls, v.kind, v.washOwed)) = some (.standard, .battery, false) ∧
    (parseDuty ⟨8, 1, 730, 2, 3, 0, 1, 1⟩).map (fun d => (d.cls, d.kind, d.due)) = some (some .standard, none, 730) ∧
    (parseDuty ⟨8, 1, 720, 1, 3, 0, 0, 1⟩).map Duty.cls = some (some .midi) ∧
    ((yard.modDuty 8 (fun d => { d with state := .called })).duty? 8).map Duty.state = some .called := by decide
theorem test_wit_DutyLoaded_full :
    let s := yard.setDuties ((List.range 256).map (fun n => duty (n + 2) 0 .openState))
    s.duty? 1 = none ∧ 256 ≤ s.duties.length := by decide +kernel
theorem test_wit_DutyCancelled :
    Clear (dsp 3) 0x19 yard ∧ (yard.duty? 8).map (fun d => (d.state, d.binding)) = some (.bound, some ⟨101, false⟩) ∧
    (yard.vehicle? 101).isSome = true ∧
    ((yard.modDuty 8 (fun d => { d with state := .released })).duty? 8).map Duty.state = some .released := by
  unfold Clear Taken
  decide
theorem test_wit_DutyBound :
    Clear (dsp 5) 0x1A yard ∧ (yard.duty? 7).map Duty.state = some .openState ∧
    (yard.vehicle? 103).map (fun v => (v.held, v.binding, (duty 7 700 .openState).suits v)) = some (false, none, true) := by
  unfold Clear Taken
  decide
theorem test_wit_DutyBound_again :
    (yard.duty? 8).map Duty.state = some .bound ∧
    (yard.vehicle? 101).map (fun v => (v.held, v.binding)) = some (false, some ⟨8, false⟩) := by decide
/-- A number without a record; a called duty; a held vehicle; one bound to another duty; one of another class. -/
theorem test_wit_DutyBound_refused :
    yard.duty? 9 = none ∧ yard.vehicle? 106 = none ∧ (calledYard.duty? 8).map Duty.state = some .called ∧
    ((yard.modVehicle 103 (fun v => { v with held := true })).vehicle? 103).map Vehicle.held = some true ∧
    (yard.vehicle? 101).bind Vehicle.binding = some ⟨8, false⟩ ∧
    ((yard.modDuty 7 (fun d => { d with cls := some .double })).duty? 7).map (fun d => (d.state, d.cls)) =
      some (.openState, some .double) ∧ (yard.vehicle? 103).map Vehicle.cls = some .standard := by decide
theorem test_wit_DutyUnbound :
    Clear (dsp 3) 0x1B yard ∧ (dsp 3).len = 3 ∧ (yard.duty? 7).map (fun d => (d.state, d.binding)) = some (.openState, none) ∧
    (yard.duty? 8).map (fun d => (d.state, d.binding)) = some (.bound, some ⟨101, false⟩) ∧
    ((yard.modDuty 7 (fun d => { d with state := .lapsed })).duty? 7).map Duty.state = some .lapsed := by
  unfold Clear Taken
  decide

/-! Configuration and resets -/

theorem test_wit_ConfigurationRequests : (dsp 1).len = 1 ∧ Clear (dsp 1) 0x1C yard ∧ Clear (dsp 1) 0x1D yard ∧ Clear (dsp 1) 0x1E yard := by
  unfold Clear Taken
  decide
theorem test_wit_ConfigurationRequests_empty_yard :
    (∀ l, (State.reset.lane l).parked = [] ∧ (State.reset.lane l).reserved = []) ∧ (∀ v ∈ State.reset.fleet, v.state = .absent) ∧
    (State.reset.unit .w1).state = .closed ∧ (State.reset.unit .w2).state = .closed ∧ (State.reset.unit .f1).state = .closed ∧
    (State.reset.unit .f2).state = .closed := by decide
theorem test_wit_ConfigurationRequests_yard_in_use : ¬ (yard.lane 0).parked = [] := by decide
theorem test_wit_SaveAndLoadEnd :
    yard.power = .running ∧ yard.store.op = .idle ∧ (withOp (.saving anImage)).store.op = .saving anImage ∧
    (withOp .loading).store.op = .loading ∧ (withOp .loading).store.flash.content = none ∧
    (yard.setStore { yard.store with op := .loading, flash := ⟨some anImage, true, true⟩ }).store.flash =
      ⟨some anImage, true, true⟩ ∧
    (yard.setStore { yard.store with op := .loading, flash := ⟨some anImage, false, true⟩ }).store.flash.checkOk = false := by
  decide
theorem test_wit_SavedImageComesBack : Clear (dsp 1) 0x1C yard ∧ (dsp 1).len = 1 := by
  unfold Clear Taken
  decide
theorem test_wit_ColdResets_held :
    (yard.setPower .held).power = .held ∧ (∀ straps answers, Instr.minuteEvent ≠ .powerUp straps answers ∧
      Instr.minuteEvent ≠ .resetLineRelease straps answers) ∧ Instr.minuteEvent ≠ .resetLineAssertion :=
  ⟨rfl, fun _ _ => ⟨nofun, nofun⟩, nofun⟩
theorem test_wit_ColdResets_image :
    let s := (yard.setStore { yard.store with flash := ⟨some anImage, true, true⟩ }).setPower .held
    s.power = .held ∧ s.store.flash = ⟨some anImage, true, true⟩ ∧ yard.store.flash.content = none := by decide
theorem test_wit_RestartClearsTheYard :
    yard.power = .running ∧ yard.restartPending = false ∧ (yard.setRestartPending true).restartPending = true ∧
    (Instr.readStatus (dsp 1)).hdr? = some (dsp 1) ∧ (dsp 1).port = .dispatch := by decide

/-! The yard -/

theorem test_wit_GateInPlaces_lane :
    Clear (gat 6) 0x20 yard ∧ yesNo? 0 = some false ∧ (yard.vehicle? 104).map Vehicle.state = some .absent ∧
    (yard.plan (bus 104 .absent) []).disp = .lane 0 1 := by
  unfold Clear Taken
  decide
theorem test_wit_GateInPlaces_apron : (noLanes.plan (bus 104 .absent) []).disp = .apron := by decide
theorem test_wit_GateInPlaces_nowhere :
    ((noLanes.setApron [1, 2, 3, 4, 5, 6, 7, 8]).plan (bus 104 .absent) []).disp = .nowhere := by decide
theorem test_wit_GateInPlaces_queue :
    (yard.plan (bus 104 .absent) [.wash]).disp = .queue .wash ∧ (yard.unit .w1).state ≠ .ready ∧
    (yard.unit .w2).state ≠ .ready := by decide
theorem test_wit_GateInPlaces_ready :
    let s := yard.setUnit .f1 (StationUnit.vacant .ready)
    (s.plan (fuelBus 104 .absent) [.fuel]).disp = .queue .fuel ∧ (s.unit .f1).state = .ready ∧ s.queue .fuel = [] := by decide

theorem settled_of (s : State) (f : Nat) (v : Vehicle) (ha : f ∈ s.apron → v.state = .apron)
    (hu : f ∈ s.unplaced.map Unplaced.fleet → v.state = .placing ∧ s.reservedLane? f = none)
    (hw : f ∉ s.queue .wash) (hf : f ∉ s.queue .fuel)
    (hx : allUnits.all (fun u => (s.unit u).vehicle != some f || (v.state == .servicing && s.unitOf? f == some u)) = true) :
    Settled s f v :=
  ⟨ha, hu, fun st h => by cases st <;> contradiction, fun u h => by
    have := List.all_eq_true.1 hx u (by cases u <;> decide)
    simp_all⟩

theorem test_wit_GateOutDeparts :
    Clear (gat 3) 0x21 yard ∧ (gat 3).len = 3 ∧ (yard.vehicle? 104).map Vehicle.state = some .absent ∧
    (yard.vehicle? 101).map Vehicle.state = some .parked ∧ (yard.duty? 8).isSome = true := by
  unfold Clear Taken
  decide
theorem test_wit_LaneDefined_settled : Settled noLanes 103 (bus 103 .apron) :=
  settled_of _ _ _ (by decide) (by decide) (by decide) (by decide) (by decide)
theorem test_wit_GateOutDeparts_settled : Settled yard 101 { bus 101 .parked with binding := some ⟨8, false⟩ } :=
  settled_of _ _ _ (by decide) (by decide) (by decide) (by decide) (by decide)
/-- 101 is PARKED and plugged, and its departure finds room in the Dispatch queue (that the yard is whole is
test_wit_invariants_yard). -/
theorem test_wit_GateOutDeparts_triggers :
    (yard.vehicle? 101).map Vehicle.plugged = some true ∧ yard.clock.unset = false ∧ yard.charge.pass = none ∧
    (yard.port .dispatch).notices.length < 32 ∧
    (yard.vehicle? 105).map (fun v => (v.plugged, v.state)) = some (false, .servicing) := by decide
theorem test_wit_GateOutDeparts_servicing : Settled yard 105 { bus 105 .servicing with route := [.wash] } :=
  settled_of _ _ _ (by decide) (by decide) (by decide) (by decide) (by decide)
theorem test_wit_GateOutDeparts_called :
    let s := yard.modVehicle 101 (fun v => { v with state := .called })
    (s.vehicle? 101).map (fun v => (v.state, v.binding.map Binding.other)) = some (.called, some 8) := by decide

theorem test_wit_LaneEntryParks_repeated :
    Clear (svc 4) 0x30 yard ∧ laneOf? 1 = some 0 ∧ (yard.vehicle? 101).map Vehicle.state = some .parked ∧
    101 ∈ (yard.lane 0).parked := by
  unfold Clear Taken
  decide
/-- 101, at the exit of lane 1, has been called. -/
theorem test_wit_LaneEntryParks_called :
    (calledYard.vehicle? 101).map Vehicle.state = some .called ∧ 101 ∈ (calledYard.lane 0).parked ∧
    (∃ w ∈ calledYard.window, w.fleet = 101) ∧ Clear (svc 4) 0x30 calledYard := by
  unfold Clear Taken
  decide
theorem test_wit_LaneEntryParks_settled : Settled yard 103 (bus 103 .apron) :=
  settled_of _ _ _ (by decide) (by decide) (by decide) (by decide) (by decide)
theorem test_wit_LaneEntryParks_no_room :
    let s := yard.modLane 1 (fun x => { x with defn := { x.defn with capacity := 0 } })
    (s.vehicle? 103).map Vehicle.state = some .apron ∧ 103 ∉ (s.lane 1).parked ∧ 103 ∉ (s.lane 1).reserved ∧
    (s.lane 1).defn.capacity < s.occupied 1 + VClass.standard.length := by decide
theorem test_wit_LaneEntryParks_room :
    103 ∉ (yard.lane 1).parked ∧ yard.occupied 1 + VClass.standard.length ≤ (yard.lane 1).defn.capacity := by decide
theorem test_wit_LaneEntryParks_reserved :
    (yard.vehicle? 102).map Vehicle.state = some .placing ∧ 102 ∈ (yard.lane 0).reserved ∧ 102 ∉ (yard.lane 0).parked := by decide
theorem test_wit_ReservedArrivalParks :
    yard.reservedLane? 102 = some 0 ∧ yard.occupied 0 + yard.reservedLength 0 ≤ (yard.lane 0).defn.capacity ∧
    ((yard.lane 0).defn.kind = .deadend → yard.headCalled? 0 = none) := by decide
theorem test_wit_ReservedArrivalParks_deadend :
    let s := (yard.modLane 0 (fun x => { x with reserved := [] })).modLane 1 (fun x => { x with reserved := [102] })
    s.reservedLane? 102 = some 1 ∧ (s.lane 1).defn.kind = .deadend ∧ s.headCalled? 1 = none ∧
    s.occupied 1 + s.reservedLength 1 ≤ (s.lane 1).defn.capacity := by decide
theorem test_wit_ReservedArrivalParks_recompute : (yard.lane 0).parked.Nodup ∧ (yard.vehicle? 101).isSome = true := by decide
theorem test_wit_SurveySetsTheLane :
    Clear (svc 5) 0x31 yard ∧ 1 ≤ 16 ∧ (svc 5).len = 3 + 2 * 1 ∧ (svc 35).len = 3 + 2 * 16 ∧ laneOf? 24 = some 23 ∧
    (yard.vehicle? 102).map Vehicle.state = some .placing ∧ 102 ∈ (yard.lane 0).reserved ∧
    (yard.vehicle? 101).map Vehicle.state = some .parked ∧ 101 ∈ (yard.lane 0).parked ∧ 101 ∉ (yard.lane 0).reserved := by
  unfold Clear Taken
  decide
/-- 102, which holds a reservation in lane 1, meets what the clause on the new list asks. -/
theorem test_wit_SurveySetsTheLane_holder : Settled yard 102 { bus 102 .placing with placedAt := some 580 } :=
  settled_of _ _ _ (by decide) (by decide) (by decide) (by decide) (by decide)
/-- An unknown number, a repeated one, and one past a capacity of 8: the survey retains 101 and 103. -/
theorem test_wit_SurveySetsTheLane_walk :
    yard.walk 8 [] 0 [101, 9, 103, 101, 104] = ⟨[101, 103], [9], [104]⟩ := by decide

theorem test_wit_PlugReported :
    Clear (svc 4) 0x32 yard ∧ (yard.vehicle? 101).map (fun v => (v.kind, v.plugged, yard.equippedLane? v)) =
      some (.battery, true, some 0) ∧
    (yard.vehicle? 103).map (fun v => yard.equippedLane? v) = some none := by
  unfold Clear Taken
  decide
theorem test_wit_EnergyReported :
    Clear (svc 5) 0x33 yard ∧ (yard.vehicle? 104).map Vehicle.state = some .absent ∧
    (yard.vehicle? 101).map (fun v => (v.state, v.kind, v.level, v.target)) = some (.parked, .battery, 1000, 2000) ∧
    ((yard.addVehicle (fuelBus 106 .apron)).vehicle? 106).map Vehicle.kind = some .fuel := by
  unfold Clear Taken
  decide
def withUnit (st : UnitState) : State := yard.setUnit .w2 (StationUnit.vacant st)
theorem test_wit_UnitReported :
    Clear (svc 3) 0x34 yard ∧ (svc 3).len = 3 ∧ (yard.unit .w1).state = .occupied ∧ (yard.unit .w2).state = .closed ∧
    yard.queue .wash = [] ∧ ((withUnit .ready).unit .w2).state = .ready ∧ ((withUnit .fault).unit .w2).state = .fault ∧
    ((withUnit .exitBlocked).unit .w2).state = .exitBlocked := by
  unfold Clear Taken
  decide
/-- 103 waits in the wash queue; W2 is the station's other unit. -/
theorem test_wit_UnitReported_waiting :
    let s := yard.setStations { yard.stations with washQ := [103] }
    (s.unit .w2).state = .closed ∧ (∀ r ∈ allUnits, r.station = .wash → r ≠ .w2 → (s.unit r).state ≠ .ready) ∧
    s.queue .wash = 103 :: [] ∧ (s.vehicle? 103).isSome = true ∧ (s.unit .w1).state = .occupied ∧
    (∀ r ∈ allUnits, r.station = .wash → r ≠ .w1 → (s.unit r).state = .closed ∨ (s.unit r).state = .fault) := by decide
theorem test_wit_UnitReported_fault :
    (yard.unit .w1).state = .occupied ∧ (yard.unit .w1).vehicle = some 105 ∧
    yard.vehicle? 105 = some { bus 105 .servicing with route := [.wash] } := by decide
theorem test_wit_TurnDone :
    Clear (svc 7) 0x35 yard ∧ (svc 7).len = 7 ∧
    yard.vehicle? 105 = some { bus 105 .servicing with route := [.wash] } ∧ (yard.unit .w1).state = .occupied ∧
    (yard.unit .w1).vehicle = some 105 := by
  unfold Clear Taken
  decide
theorem test_wit_TurnDone_dispositions :
    (yard.plan (bus 105 .servicing) []).disp = .lane 0 1 ∧ (noLanes.plan (bus 105 .servicing) []).disp = .apron ∧
    ((noLanes.setApron [1, 2, 3, 4, 5, 6, 7, 8]).plan (bus 105 .servicing) []).disp = .nowhere ∧
    (yard.plan (fuelBus 105 .servicing) [.wash]).disp = .queue .wash := by decide
/-- A unit that is to close, one that is to stay in FAULT, and a head that waits for the unit. -/
theorem test_wit_TurnDone_release :
    let s := (yard.setUnit .w1 { yard.unit .w1 with closing := true }).setStations
      { (yard.setUnit .w1 { yard.unit .w1 with closing := true }).stations with washQ := [103] }
    (s.unit .w1).closing = true ∧ (s.unit .w1).vehicle = some 105 ∧ s.queue .wash = 103 :: [] ∧
    (∀ r ∈ allUnits, r.station = .wash → r ≠ .w1 → (s.unit r).state ≠ .ready) := by decide
theorem test_wit_ReadyUnitTakesHead_long :
    let s := yard.setStations { yard.stations with fuelQ := [⟨1, false⟩, ⟨2, false⟩, ⟨3, false⟩, ⟨4, false⟩, ⟨5, false⟩] }
    s.stations.long .fuel ≠ decide (s.params.longAt .fuel < (s.queue .fuel).length) ∧
    yard.stations.long .fuel = decide (yard.params.longAt .fuel < (yard.queue .fuel).length) ∧
    (yard.queue .fuel).length ≠ (s.queue .fuel).length := by decide
/-- An event leaves 105 on W1 EXIT_BLOCKED and two vehicles in the wash queue, with these as the threshold and the length
before. -/
def blockedWash (longAt before : Nat) : State × State :=
  let s := yard.setStations
    { yard.stations with w1 := ⟨.exitBlocked, some 105, none, 0, false, false⟩, washQ := [103, 104] }
  let t := s.setParams { s.params with washLongAt := longAt }
  (t.setStations { t.stations with washQ := [103, 104].take before }, t)
/-- R72: the sweep's release of W1 takes the head, so the queue that stood above its threshold of 1 is not long at the end. -/
theorem test_long_flag_after_sweep :
    let x := blockedWash 1 1
    let t := (Ev.mk x.2 false true false).finish x.1
    t.queue .wash = [104] ∧ t.stations.washLong = false ∧
    (t.port .service).notices.map Notice.kind = [.route, .stationCall] := by decide
/-- R72: with a threshold of 0 the queue is long, and the one notice carries the length after the sweep. -/
theorem test_long_flag_value_after_sweep :
    let x := blockedWash 0 0
    let t := (Ev.mk x.2 false true false).finish x.1
    t.stations.washLong = true ∧
    (t.port .service).notices.map (fun n => (n.kind, n.value)) =
      [(.route, none), (.stationCall, some 12), (.queueLong, some 1)] := by decide
theorem test_wit_ReadyUnitTakesHead :
    let s := (yard.setUnit .w2 (StationUnit.vacant .ready)).setStations
      { (yard.setUnit .w2 (StationUnit.vacant .ready)).stations with washQ := [103, 104] }
    (s.unit .w2).state = .ready ∧ s.queue .wash = 103 :: [104] ∧ (s.vehicle? 103).isSome = true ∧
    (yard.unit .w1).state ≠ .ready ∧ yard.queue .fuel = [] := by decide
theorem test_wit_CallScanCalls : State.reset.clock.unset = true ∧ yard.clock.unset = false := by decide
/-- A scan that makes a call: duty 8 due in 10 minutes, its vehicle at the exit of lane 1. -/
theorem test_wit_CallScanCalls_called : ((yard.setClockFields ⟨710, 3, false, 180, 0⟩).scan).window = [⟨8, 101, 0, false⟩] := by decide
/-- A scan whose window has no room stops at the duty, with its flags cleared. -/
theorem test_wit_CallScanCalls_stop :
    let s := (yard.setClockFields ⟨710, 3, false, 180, 0⟩).setParams { yard.params with callWindow := 0 }
    s.scan.window = [] ∧ s.scan.duty? 8 = yard.duty? 8 := by decide
theorem test_wit_CallScanCalls_withdraw :
    calledYard.window.find? (fun x => x.fleet == 101) = some ⟨8, 101, 0, false⟩ ∧ (∀ w ∈ yard.window, w.fleet ≠ 101) := by decide
/-- 101, unbound, is the one candidate for duty 7; with 101 bound there is none. -/
theorem test_wit_AutomaticBinding :
    let s := yard.modVehicle 101 (fun v => { v with binding := none })
    s.duty? 7 = some (duty 7 700 .openState) ∧ Ascending (s.fleet.map Vehicle.number) ∧ (Ev.start s).trigger = false ∧
    (s.vehicle? 101).map (fun v => (v.state, v.held, v.binding)) = some (.parked, false, none) ∧ s.parkedLane? 101 = some 0 ∧
    (s.lane 0).parked.takeWhile (fun g => g ≠ 101) = [] ∧
    (∀ v ∈ s.fleet, v.state = .parked → v.number = 101) ∧ (∀ v ∈ yard.fleet, v.state = .parked → v.binding ≠ none) ∧
    Ascending (s.duties.map Duty.number) := by
  unfold Ascending
  decide

/-! Events and the allotment -/

def aSnap : SnapVehicle := ⟨101, 0, 50, 0, 1000, false, some (.current, 700)⟩
def aPass : Snapshot :=
  { limits := ⟨#v[40, 0, 0, 0], 100⟩, pMin := 6, fallback := 11, margin := 15, readyBy := 330, topUp := true, minute := 600
    serviceMinute := 420, dayStart := 180, vehicles := [aSnap] }
theorem test_wit_PassCompletes :
    yard.power = .running ∧ yard.charge.pass = none ∧ (yard.vehicle? 101).isSome = true ∧
    (yard.setCharge { yard.charge with pass := some aPass }).charge.pass = some aPass ∧
    (aPass.vehicles.map SnapVehicle.number).Nodup ∧ aPass.compute.map (fun a => (a.v.number, a.grant)) = [(101, 40)] ∧
    (yard.vehicle? 101).map yard.eligible = some true ∧ yard.parkedLane? 101 = some 0 := by decide
theorem test_wit_StaleMeterTest :
    yard.power = .running ∧ yard.clock.unset = false ∧
    (yard.vehicle? 101).map (fun v => (v.plugged, yard.eligible v, v.stale, v.lastReport)) = some (true, true, false, some 590) ∧
    yard.params.staleLimit ≤ (yard.clock.minute + 1440 - 590) % 1440 ∧
    (yard.vehicle? 103).map Vehicle.plugged = some false := by decide
theorem test_wit_PlacementOverdueTest :
    yard.power = .running ∧ (yard.vehicle? 102).map (fun v => (v.state, v.placedAt)) = some (.placing, some 580) ∧
    yard.params.placeTimeout ≤ (yard.clock.minute + 1440 - 580) % 1440 ∧
    (yard.clock.minute + 1440 - 586) % 1440 < yard.params.placeTimeout ∧
    (yard.vehicle? 103).map Vehicle.state = some .apron := by decide
theorem test_wit_TurnTimerOverruns :
    yard.power = .running ∧ yard.clock.unset = false ∧ (yard.unit .w1).state = .occupied ∧ (yard.unit .w1).timer = some 1 ∧
    (yard.unit .w1).vehicle = some 105 ∧ (yard.unit .w2).state ≠ .occupied := by decide
theorem test_wit_TurnTimerOverruns_minutes :
    let s := yard.setUnit .w2 ⟨.exitBlocked, some 103, some 4, 0, false, false⟩
    s.power = .running ∧ s.clock.unset = false ∧ Clear (dsp 5) 0x10 s ∧ (dsp 5).len = 5 ∧ (s.unit .w2).state = .exitBlocked ∧
    ((yard.setUnit .w2 ⟨.occupied, some 103, some 4, 0, false, false⟩).unit .w2).timer = some (2 + 2) := by
  unfold Clear Taken
  decide
theorem test_wit_DutyLapses :
    let s := yard.setClockFields ⟨730, 3, false, 180, 0⟩
    s.power = .running ∧ s.clock.unset = false ∧
    (s.duty? 8).map (fun d => (d.state, decide (s.dutyKey d + s.params.grace ≤ s.now), d.binding.map Binding.other)) =
      some (.bound, true, some 101) ∧ (s.vehicle? 101).isSome = true ∧
    (s.duty? 7).map (fun d => (d.state, decide (s.dutyKey d + s.params.grace ≤ s.now), d.binding)) =
      some (.openState, true, none) ∧
    (yard.duty? 8).map (fun d => decide (yard.now < yard.dutyKey d + yard.params.grace)) = some true := by decide

theorem test_wit_TimeBudget :
    aSnap.duty = some (.current, 700) ∧ aPass.serviceMinute ≤ 1439 ∧ aPass.margin ≤ 60 ∧ aPass.budget aSnap = 85 := by decide
theorem test_wit_NeedAndPriority : 1 ≤ aSnap.remaining ∧ 1 ≤ aSnap.rating ∧ aSnap.stale = false ∧ 0 < aPass.budget aSnap := by decide
theorem test_wit_GroupBudgets : [30, 30, 30, 0].sum ≤ 90 ∧ 89 < [30, 30, 30, 0].sum := by decide
theorem test_wit_GroupSplit : demand 0 aPass.ordered = 50 ∧ demand 0 aPass.ordered ≤ 50 ∧ 49 < demand 0 aPass.ordered := by decide
theorem test_wit_SmallGrantsCut : ([⟨aSnap, 50, 5⟩] : List Alloc)[0]? = some ⟨aSnap, 50, 5⟩ := by decide
theorem test_wit_LaneChoiceIsEligible :
    yard.laneChoice (bus 104 .absent) = some (0, 1) ∧ noLanes.laneChoice (bus 104 .absent) = none := by decide
/-- 105 held by W1 EXIT_BLOCKED, with lanes, without, and with a full apron. -/
theorem test_wit_LaneChoiceIsEligible_sweep :
    let s := yard.setUnit .w1 { yard.unit .w1 with state := .exitBlocked }
    (s.unit .w1).state = .exitBlocked ∧ (s.unit .w1).vehicle = some 105 ∧ s.vehicle? 105 = some { bus 105 .servicing with route := [.wash] } ∧
    (s.laneChoice (bus 105 .servicing)).isSome = true ∧ 105 ∉ s.apron ∧ s.reservedLane? 105 = none ∧
    noLanes.laneChoice (bus 105 .servicing) = none ∧ noLanes.apron.length < 8 ∧
    8 ≤ (noLanes.setApron [1, 2, 3, 4, 5, 6, 7, 8]).apron.length := by decide
theorem test_wit_LaneChoiceIsEligible_settled :
    Settled (yard.setUnit .w1 { yard.unit .w1 with state := .exitBlocked }) 105 { bus 105 .servicing with route := [.wash] } :=
  settled_of _ _ _ (by decide) (by decide) (by decide) (by decide) (by decide)
theorem test_wit_RequestBodyRoundTrip :
    (Instr.laneContent (svc 5) 1 1 [101]).wf = true ∧ (Instr.laneContent (svc 5) 1 1 [101]).hdr? = some (svc 5) ∧
    encodeRequest (.laneContent (svc 5) 1 1 [101]) = some [0x31, 1, 1, 0, 101] ∧ (svc 5).len = [0x31, 1, 1, 0, 101].length := by decide

/-- A state that meets the four invariants, and a step from it. -/
theorem test_wit_invariants_ports : PortsOk yard ∧ ∃ t, step (yard.setPending [.gateOut (gat 3) 104]) = .next t := by
  refine ⟨?_, _, rfl⟩
  unfold PortsOk PortOk
  decide
theorem test_wit_invariants_clock : ClockOk yard := by
  unfold ClockOk ImagesOk
  decide
theorem test_wit_invariants_register : RegisterOk yard := by
  unfold RegisterOk ImagesOk Ascending
  decide
theorem test_wit_invariants_config : ConfigOk yard :=
  ⟨by unfold ParamsOk IsStep Within; decide, by unfold LimitsOk; decide, by unfold LimitsOk; decide,
    by unfold ScheduleOk Ascending; decide, fun x h => (nomatch h), by decide, by unfold LaneDefOk Within; decide,
    fun x h => (nomatch h), fun x h => (nomatch h)⟩

/-- `State.holds` as a Bool. -/
def holdsB (s : State) (v : Vehicle) : Bool :=
  match v.state with
  | .absent => decide (v.number ∉ s.placed)
  | .apron => decide (v.number ∈ s.apron)
  | .queued => decide (v.route ≠ [] ∧ s.queueOf? v.number = v.route.head?)
  | .servicing => decide (s.unitOf? v.number ≠ none)
  | .placing => decide (s.reservedLane? v.number ≠ none ∨ v.number ∈ s.unplaced.map Unplaced.fleet)
  | .parked => decide (s.parkedLane? v.number ≠ none)
  | .called => decide (∃ l, (s.lane l).parked.head? = some v.number)

theorem holds_of {s : State} {v : Vehicle} (h : holdsB s v = true) : s.holds v := by
  unfold holdsB at h
  unfold State.holds
  split at h <;> simp_all

theorem vehicles_of {s : State} (h : ∀ v ∈ s.fleet, holdsB s v = true)
    (r : ∀ v ∈ s.fleet, (v.placedAt.isSome = true ↔ v.state = .placing) ∧
      (v.route = [] ∨ v.route = [.wash] ∨ v.route = [.fuel] ∨ v.route = [.fuel, .wash]) ∧
      (v.state ≠ .queued → v.state ≠ .servicing → v.route = []) ∧
      (∀ b ∈ v.binding, (s.duty? b.other).bind Duty.binding = some ⟨v.number, b.fixed⟩) ∧
      (v.state = .called ↔ v.number ∈ s.window.map WindowEntry.fleet)) : ∀ v ∈ s.fleet, s.vehicleOk v :=
  fun v hv => ⟨holds_of (h v hv), r v hv⟩

/-- The small yard is whole, and so it is with a call made. -/
theorem test_wit_invariants_yard : YardOk yard where
  once := by decide +kernel
  known := by decide +kernel
  vehicles := vehicles_of (by decide +kernel) (by decide +kernel)
  flags := by unfold State.flagsOk; decide +kernel
  lengths := by decide +kernel
  apron := by decide
  queues := by unfold State.queueOk; decide +kernel
  levels := by decide
  units := by unfold UnitOk State.turnOk; decide +kernel
  duties := by unfold State.dutyOk; decide +kernel
  window := by unfold State.windowOk; decide +kernel
  loading := by decide
theorem test_wit_invariants_called : YardOk calledYard where
  once := by decide +kernel
  known := by decide +kernel
  vehicles := vehicles_of (by decide +kernel) (by decide +kernel)
  flags := by unfold State.flagsOk; decide +kernel
  lengths := by decide +kernel
  apron := by decide
  queues := by unfold State.queueOk; decide +kernel
  levels := by decide
  units := by unfold UnitOk State.turnOk; decide +kernel
  duties := by unfold State.dutyOk; decide +kernel
  window := by unfold State.windowOk; decide +kernel
  loading := by decide

/-- 101 is granted 40 kW, and a pass is in flight. -/
def grantYard : State :=
  (yard.modVehicle 101 (fun v => { v with grant := 40 })).setCharge
    { yard.charge with inForce := ⟨#v[40, 0, 0, 0], 50⟩, pass := some aPass }
theorem test_wit_invariants_grants : GrantsOk grantYard where
  each := by decide +kernel
  depot := by decide
  snapshot := by decide +kernel
theorem test_wit_invariants_groups : GroupsOk grantYard ∧ GroupsAsSnapped grantYard := by
  unfold GroupsOk GroupsAsSnapped
  decide +kernel
/-- The reply to a READ_STATUS is under way at Gate. -/
theorem test_wit_invariants_replies : RepliesOk (after (.readStatus (gat 1)) yard) := by
  intro p
  unfold Within
  cases p <;> decide +kernel

theorem test_wit_YardStaysWhole : RegisterOk yard ∧ ConfigOk yard ∧ YardOk yard ∧ ∃ t, step yard = .next t :=
  ⟨test_wit_invariants_register, test_wit_invariants_config, test_wit_invariants_yard, _, rfl⟩
/-- A call made, and a command that withdraws it. -/
theorem test_wit_CallScanCalls_whole : RegisterOk calledYard ∧ YardOk calledYard ∧ calledYard.clock.unset = false := by
  refine ⟨?_, test_wit_invariants_called, rfl⟩
  unfold RegisterOk ImagesOk Ascending
  decide
theorem yard_of_grants : YardOk grantYard where
  once := by decide +kernel
  known := by decide +kernel
  vehicles := vehicles_of (by decide +kernel) (by decide +kernel)
  flags := by unfold State.flagsOk; decide +kernel
  lengths := by decide +kernel
  apron := by decide
  queues := by unfold State.queueOk; decide +kernel
  levels := by decide
  units := by unfold UnitOk State.turnOk; decide +kernel
  duties := by unfold State.dutyOk; decide +kernel
  window := by unfold State.windowOk; decide +kernel
  loading := by decide
theorem config_of_grants : ConfigOk grantYard :=
  ⟨by unfold ParamsOk IsStep Within; decide, by unfold LimitsOk; decide, by unfold LimitsOk; decide,
    by unfold ScheduleOk Ascending; decide, by unfold LimitsOk; decide, by decide, by unfold LaneDefOk Within; decide,
    fun x h => (nomatch h), fun x h => (nomatch h)⟩
theorem test_wit_GrantsKeepTheLimits :
    RegisterOk grantYard ∧ ConfigOk grantYard ∧ YardOk grantYard ∧ GrantsOk grantYard ∧ GroupsOk grantYard ∧
    GroupsAsSnapped grantYard ∧ ∃ t, step grantYard = .next t := by
  refine ⟨?_, config_of_grants, yard_of_grants, test_wit_invariants_grants, test_wit_invariants_groups.1,
    test_wit_invariants_groups.2, _, rfl⟩
  unfold RegisterOk ImagesOk Ascending
  decide
theorem test_wit_PortsStayBounded_replies :
    RegisterOk yard ∧ ConfigOk yard ∧ YardOk yard ∧ RepliesOk yard ∧
    ∃ t, step (yard.setPending [.readStatus (gat 1)]) = .next t := by
  refine ⟨test_wit_invariants_register, test_wit_invariants_config, test_wit_invariants_yard, ?_, _, rfl⟩
  intro p
  unfold Within
  cases p <;> decide

/-! The refused forms of the requests, the withdrawn calls, and the minute events -/

/-- Numbers without a record, and bytes and numbers just outside their ranges. -/
theorem test_wit_refused_forms :
    yard.vehicle? 9 = none ∧ yard.duty? 9 = none ∧ ¬ Within 1 24 0 ∧ ¬ Within 1 24 25 ∧ Within 1 24 24 ∧ ¬ Within 1 9999 10000 ∧
    ¬ Within 1 4 5 ∧ ¬ Within 1 2 0 ∧ Within 1 2 2 ∧ ¬ Within 0x31 0x34 0x35 ∧ Within 0x31 0x34 0x34 ∧ ¬ Within 1 3 4 ∧
    UnitId.f1.code = 0x33 ∧ (yard.unit .f1).state ≠ .occupied := by
  unfold Within
  decide
/-- R164: a wash byte of 2 is found before the number without a record. -/
theorem test_gate_in_bad_form_first :
    (after (.gateIn (gat 6) 9 0 2) yard).answerOn .gate = some (.refuse .badForm) ∧
    (after (.gateIn (gat 6) 9 0 1) yard).answerOn .gate = some (.refuse .unknown) := by decide
theorem test_wit_HoldSetAndCleared_called :
    Clear (dsp 4) 0x17 calledYard ∧ (calledYard.vehicle? 101).map (fun v => (v.held, v.state, v.binding)) =
      some (false, .called, some ⟨8, false⟩) ∧ RegisterOk calledYard ∧ YardOk calledYard := by
  refine ⟨?_, by decide, test_wit_CallScanCalls_whole.1, test_wit_invariants_called⟩
  unfold Clear Taken
  decide
/-- R141: the call of duty 8 withdrawn, with its cause told to Gate. -/
theorem test_cancel_withdraws_the_call :
    let t := after (.cancelDuty (dsp 3) 8) calledYard
    (t.vehicle? 101).map Vehicle.state = some .parked ∧ t.window = [] ∧
    (t.port .gate).notices.map (fun n => (n.kind, n.value)) = [(.callWithdrawn, some 5)] := by decide
theorem test_wit_DutyCancelled_called :
    Clear (dsp 3) 0x19 calledYard ∧ Clear (dsp 3) 0x1B calledYard ∧
    (calledYard.duty? 8).map (fun d => (d.state, d.binding)) = some (.called, some ⟨101, false⟩) := by
  unfold Clear Taken
  decide
theorem test_wit_GateInPlaces_second :
    let s := yard.setUnit .w2 (StationUnit.vacant .ready)
    (s.plan (bus 104 .absent) [.wash]).disp = .queue .wash ∧ (s.unit .w1).state ≠ .ready ∧ (s.unit .w2).state = .ready ∧
    s.queue .wash = [] := by decide
/-- 101 stands behind 102 in lane 1. -/
theorem test_wit_GateOutDeparts_not_at_exit :
    let s := yard.modLane 0 (fun x => { x with parked := [102, 101], reserved := [] })
    s.parkedLane? 101 = some 0 ∧ (s.lane 0).parked.head? ≠ some 101 ∧
    (s.vehicle? 101).map Vehicle.state = some .parked := by decide
/-- Lane 1 is 8 m long, with room for two STANDARD vehicles. -/
def narrowYard : State := yard.modLane 0 (fun x => { x with defn := { x.defn with capacity := 8 } })
/-- 103 enters lane 1, where the reservation of 102 no longer fits; 102 and 104 enter lane 2. -/
theorem test_wit_LaneEntryParks_causes :
    103 ∉ (narrowYard.lane 0).parked ∧
    narrowYard.occupied 0 + VClass.standard.length ≤ (narrowYard.lane 0).defn.capacity ∧
    (narrowYard.lane 0).defn.capacity < narrowYard.occupied 0 + VClass.standard.length + narrowYard.lengthSum [102] ∧
    (yard.vehicle? 102).map Vehicle.state = some .placing ∧ yard.reservedLane? 102 = some 0 ∧
    (yard.vehicle? 104).map Vehicle.state = some .absent ∧
    ((yard.modLane 1 (fun x => { x with defn := { x.defn with lowClearance := true } })).lane 1).defn.lowClearance = true := by
  decide
theorem test_lane_entry_drops_the_reservation :
    (after (.laneEntry (svc 4) 103 1) narrowYard).answerOn .service = some (.accept (.entered 2 1)) := by decide
theorem test_wit_StaleMeterTest_minute :
    (∃ v, yard.vehicle? 101 = some v ∧ Settled yard 101 v ∧ v.state = .parked ∧ v.plugged = true ∧ yard.eligible v = true ∧
      v.stale = false ∧ v.lastReport = some 590 ∧ yard.params.staleLimit ≤ (601 + 1440 - 590) % 1440) ∧
    RegisterOk yard ∧ YardOk yard ∧ yard.clock.minute < 1440 ∧ yard.charge.pass = none ∧
    (yard.setCharge { yard.charge with pass := some aPass }).charge.pass ≠ none :=
  ⟨⟨_, rfl, settled_of _ _ _ (by decide) (by decide) (by decide) (by decide) (by decide), by decide⟩,
    test_wit_invariants_register, test_wit_invariants_yard, by decide, by decide, by decide⟩
/-- R91, R97: the minute event finds the report of 101 expired, and starts a pass (the order of the blocks' work, a free value,
given). -/
theorem test_minute_event_does_its_work :
    let t := (yard.setClockFields yard.clock.tick).deliverWith (fun _ => 0) false 1 (elapsed 601)
    (t.vehicle? 101).map Vehicle.stale = some true ∧ t.charge.pass ≠ none := by decide
theorem test_wit_PlacementOverdueTest_minute :
    yard.vehicle? 102 = some { bus 102 .placing with placedAt := some 580 } ∧ 102 ∉ yard.window.map WindowEntry.fleet ∧
    yard.reservedLane? 102 = some 0 ∧ yard.params.placeTimeout ≤ (601 + 1440 - 580) % 1440 ∧
    (yard.clock.minute + 1440 - 600) % 1440 + 1 < yard.params.placeTimeout := by decide
/-- The last minute before the rollover, with a NEXT duty; and a minute at which duties 7 and 8 have lapsed. -/
theorem test_wit_DutyLapses_minute :
    let s := (yard.setClockFields ⟨179, 3, false, 180, 0⟩).modDuty 7 (fun d => { d with day := .next })
    let u := yard.setClockFields ⟨730, 3, false, 180, 0⟩
    (s.clock.minute + 1) % 1440 = s.clock.sEff ∧ (s.duty? 7).map Duty.day = some .next ∧
    Ascending (s.duties.map Duty.number) ∧ (∀ w ∈ s.window, w.duty ≠ 7) ∧ (731 == u.clock.sEff) = false ∧
    (u.duty? 8).map (fun d => (d.state, decide (u.dutyKey d + u.params.grace ≤ u.now + 1))) = some (.bound, true) ∧
    (u.vehicle? 101).isSome = true ∧
    (∀ w ∈ calledYard.window, w.duty = 8 ∧ w.fleet = 101) := by
  unfold Ascending
  decide
theorem test_wit_GateInPlaces_settled :
    Settled yard 104 (bus 104 .absent) ∧ yard.reservedLane? 104 = none ∧ Settled noLanes 104 (bus 104 .absent) :=
  ⟨settled_of _ _ _ (by decide) (by decide) (by decide) (by decide) (by decide), by decide,
    settled_of _ _ _ (by decide) (by decide) (by decide) (by decide) (by decide)⟩
/-- WASH is open by W1, which is OCCUPIED, and FUEL is shut: the fuel step is skipped. -/
theorem test_wit_GateInPlaces_plan :
    yard.plan (fuelBus 104 .absent) [.fuel, .wash] = ⟨[.fuel], [.wash], .queue .wash⟩ ∧ (yard.queue .wash).length < 12 ∧
    (yard.unit .w1).state = .occupied ∧ yard.laneChoice (bus 104 .absent) = some (0, 1) ∧
    noLanes.laneChoice (bus 104 .absent) = none ∧ noLanes.apron.length < 8 := by decide
/-- R51, R57: the level above the capacity is taken as 2500, so that no charge is needed, and stage 3 finds lane 1 in order. -/
theorem test_gate_in_reply :
    (after (.gateIn (gat 6) 104 2600 0) yard).answerOn .gate =
      some (.adjusted (.gateIn ⟨[], [], .placing, .reserved 0, some 3⟩)) := by decide
/-- 101 is eligible and bound, and 103 is neither. -/
theorem test_wit_PassFollows :
    (yard.vehicle? 101).map yard.eligible = some true ∧ (yard.vehicle? 101).bind Vehicle.binding = some ⟨8, false⟩ ∧
    (yard.vehicle? 103).map yard.eligible = some false ∧ yard.charge.pass = none ∧ yard.clock.unset = false ∧
    RegisterOk yard ∧ YardOk yard :=
  ⟨by decide, by decide, by decide, by decide, by decide, test_wit_invariants_register, test_wit_invariants_yard⟩
/-- R61: the retry sweep at the end of a departure takes 103 off the apron. -/
theorem test_gate_out_sweeps :
    let t := after (.gateOut (gat 3) 101) yard
    t.apron = [] ∧ (t.vehicle? 103).map Vehicle.state = some .placing := by decide

end Sys2Proof.Tests
end

section
/-! SUPPORT. What a clock event does to the wash-day counters (R18). The lasting part of a vehicle record is what no work of
the yard, the roster, the stations or the charging unit on a clock event changes; only the rollover piece of the work does,
and it is taken once in every order of the blocks' work. -/

namespace Sys2Proof.Machine

/-! ### The lasting part of a record -/

/-- A record without what placement, service, charging, binding and calls write on a clock event, and without the captures
that a jump restamps. -/
def Vehicle.lasting (v : Vehicle) : Vehicle :=
  { v.restarted with level := v.level, held := v.held, ranToday := v.ranToday, plugged := v.plugged }

/-- The lasting parts of all records. -/
def State.lasting (s : State) : List Vehicle := s.fleet.map Vehicle.lasting

theorem find?_lasting (s : State) (f : Nat) :
    s.lasting.find? (fun v => v.number == f) = (s.vehicle? f).map Vehicle.lasting :=
  find?_map_number Vehicle.number Vehicle.lasting f s.fleet fun _ _ => rfl

@[simp] theorem owe_lasting (v : Vehicle) (st : Station) : (v.owe st).lasting = v.lasting := by cases st <;> rfl

@[simp] theorem oweAll_lasting (l : List Station) (v : Vehicle) : (v.oweAll l).lasting = v.lasting := by
  induction l generalizing v with
  | nil => rfl
  | cons st l ih => exact (ih (v.owe st)).trans (owe_lasting v st)

theorem rollover_lasting (v : Vehicle) : v.rollover.lasting = v.lasting.rollover := rfl

/-! ### Changes of one field and of records -/

@[simp] theorem setFreeCount_lasting (x : Nat) (s : State) : (s.setFreeCount x).lasting = s.lasting := rfl
@[simp] theorem setClockFields_lasting (x : Clock) (s : State) : (s.setClockFields x).lasting = s.lasting := rfl
@[simp] theorem setLanes_lasting (x : Vector Lane 24) (s : State) : (s.setLanes x).lasting = s.lasting := rfl
@[simp] theorem setApron_lasting (x : List Nat) (s : State) : (s.setApron x).lasting = s.lasting := rfl
@[simp] theorem setUnplaced_lasting (x : List Unplaced) (s : State) : (s.setUnplaced x).lasting = s.lasting := rfl
@[simp] theorem setStations_lasting (x : Stations) (s : State) : (s.setStations x).lasting = s.lasting := rfl
@[simp] theorem setCharge_lasting (x : Charge) (s : State) : (s.setCharge x).lasting = s.lasting := rfl
@[simp] theorem setDuties_lasting (x : List Duty) (s : State) : (s.setDuties x).lasting = s.lasting := rfl
@[simp] theorem setWindow_lasting (x : List WindowEntry) (s : State) : (s.setWindow x).lasting = s.lasting := rfl
@[simp] theorem modLane_lasting (l : LaneId) (g : Lane → Lane) (s : State) : (s.modLane l g).lasting = s.lasting := rfl
@[simp] theorem setUnit_lasting (u : UnitId) (r : StationUnit) (s : State) : (s.setUnit u r).lasting = s.lasting := rfl
@[simp] theorem modDuty_lasting (n : Nat) (g : Duty → Duty) (s : State) : (s.modDuty n g).lasting = s.lasting := rfl

@[simp] theorem post_lasting (ports : List PortId) (n : Notice) (s : State) : (s.post ports n).lasting = s.lasting := by
  rw [State.post_eq]
  rfl

/-- A change of one record that keeps its lasting part keeps them all. -/
theorem modVehicle_lasting (f : Nat) (g : Vehicle → Vehicle) (s : State) (h : ∀ v, (g v).lasting = v.lasting) :
    (s.modVehicle f g).lasting = s.lasting := by
  simp only [State.lasting, State.modVehicle, State.setFleet, List.map_map]
  refine List.map_congr_left fun v _ => ?_
  simp only [Function.comp_apply]
  split
  · exact h v
  · rfl

/-- A change of every record changes the lasting parts alike, where it can be told from them. -/
theorem mapFleet_lasting (g k : Vehicle → Vehicle) (s : State) (h : ∀ v, (g v).lasting = k v.lasting) :
    (s.mapFleet g).lasting = s.lasting.map k := by
  simp only [State.lasting, State.mapFleet, State.setFleet, List.map_map]
  exact List.map_congr_left fun v _ => h v

theorem foldl_lasting {β : Type} (f : State → β → State) (step : ∀ s b, (f s b).lasting = s.lasting) (l : List β)
    (s : State) : (l.foldl f s).lasting = s.lasting :=
  foldl_rel (fun a b : State => b.lasting = a.lasting) (fun _ => rfl) (fun _ _ _ h k => k.trans h) f step l s

theorem foldlEv_lasting {β : Type} (f : Ev → β → Ev) (step : ∀ e b, (f e b).s.lasting = e.s.lasting) (l : List β)
    (e : Ev) : (l.foldl f e).s.lasting = e.s.lasting :=
  foldl_rel (fun a b : Ev => b.s.lasting = a.s.lasting) (fun _ => rfl) (fun _ _ _ h k => k.trans h) f step l e

/-! ### Charge and blocked flags -/

@[simp] theorem triggerPass_lasting (s : State) : s.triggerPass.lasting = s.lasting := by
  simp only [State.triggerPass]
  split
  · rfl
  · split <;> rfl

@[simp] theorem firePass_lasting (e : Ev) : e.firePass.s.lasting = e.s.lasting := by
  simp only [Ev.firePass]
  split
  · exact triggerPass_lasting e.s
  · rfl

theorem testStale_lasting (age : Nat → Nat) (s : State) (f : Nat) : (s.testStale age f).lasting = s.lasting := by
  simp only [State.testStale]
  split
  · rfl
  · split
    · rw [post_lasting, modVehicle_lasting]
      exact fun _ => rfl
    · rfl

@[simp] theorem testStaleAll_lasting (age : Nat → Nat) (s : State) : (s.testStaleAll age).lasting = s.lasting :=
  foldl_lasting _ (testStale_lasting age) _ s

@[simp] theorem applySchedule_lasting (d : Nat) (s : State) : (s.applySchedule d).lasting = s.lasting := by
  simp only [State.applySchedule]
  split <;> rfl

@[simp] theorem chargeWork_lasting (d : Nat) (age : Nat → Nat) (s : State) : (s.chargeWork d age).lasting = s.lasting := by
  simp [State.chargeWork]

theorem refreshBlocked_lasting (l : LaneId) (ahead : List Nat) (f : Nat) (s : State) :
    (s.refreshBlocked l ahead f).lasting = s.lasting := by
  simp only [State.refreshBlocked]
  split
  · rfl
  · split
    · rw [post_lasting, modVehicle_lasting]
      exact fun _ => rfl
    · exact modVehicle_lasting _ _ _ fun _ => rfl

theorem refreshFrom_lasting (l : LaneId) (fs ahead : List Nat) (s : State) :
    (s.refreshFrom l ahead fs).lasting = s.lasting := by
  induction fs generalizing ahead s with
  | nil => rfl
  | cons f fs ih => exact (ih _ _).trans (refreshBlocked_lasting l ahead f s)

@[simp] theorem recomputeLane_lasting (l : LaneId) (s : State) : (s.recomputeLane l).lasting = s.lasting :=
  refreshFrom_lasting l _ _ s

@[simp] theorem recomputeAll_lasting (s : State) : s.recomputeAll.lasting = s.lasting :=
  foldl_lasting _ (fun t l => recomputeLane_lasting l t) _ s

/-! ### Bindings, calls and lapses -/

@[simp] theorem bindBoth_lasting (n f : Nat) (fixed : Bool) (s : State) : (s.bindBoth n f fixed).lasting = s.lasting :=
  modVehicle_lasting f _ (s.modDuty n _) fun _ => rfl

@[simp] theorem unbindBoth_lasting (n f : Nat) (st : DutyState) (s : State) :
    (s.unbindBoth n f st).lasting = s.lasting :=
  modVehicle_lasting f _ (s.modDuty n _) fun _ => rfl

@[simp] theorem handOver_lasting (f : Nat) (e : Ev) : (e.handOver f).s.lasting = e.s.lasting := by
  simp only [Ev.handOver, Ev.wantPass_s]
  split
  · exact recomputeLane_lasting _ e.s
  · rfl

@[simp] theorem withdraw_lasting (f : Nat) (c : WithdrawCause) (e : Ev) : (e.withdraw f c).s.lasting = e.s.lasting := by
  simp only [Ev.withdraw]
  split
  · rfl
  · rw [Ev.wantSweep_s, Ev.freeSlot_s, post_lasting, modVehicle_lasting, modDuty_lasting, setWindow_lasting]
    exact fun _ => rfl

@[simp] theorem reportNotReady_lasting (d : Duty) (v : Vehicle) (s : State) :
    (s.reportNotReady d v).lasting = s.lasting := by
  simp only [State.reportNotReady]
  split <;> simp

@[simp] theorem reportShunt_lasting (d : Duty) (v : Vehicle) (l : LaneId) (pos : Nat) (s : State) :
    (s.reportShunt d v l pos).lasting = s.lasting := by
  simp only [State.reportShunt]
  split <;> simp

@[simp] theorem reportLowEnergy_lasting (d : Duty) (v : Vehicle) (l : LaneId) (s : State) :
    (s.reportLowEnergy d v l).lasting = s.lasting := by
  simp only [State.reportLowEnergy]
  split <;> simp

@[simp] theorem clearReadiness_lasting (n : Nat) (s : State) : (s.clearReadiness n).lasting = s.lasting := rfl

@[simp] theorem callDuty_lasting (d : Duty) (v : Vehicle) (l : LaneId) (short : Bool) (s : State) :
    (s.callDuty d v l short).lasting = s.lasting := by
  rw [State.callDuty, post_lasting, setWindow_lasting, modVehicle_lasting, modDuty_lasting, clearReadiness_lasting]
  exact fun _ => rfl

theorem scanDuties_lasting (ns : List Nat) (s : State) : (s.scanDuties ns).lasting = s.lasting := by
  induction ns generalizing s with
  | nil => rfl
  | cons n ns ih =>
    simp only [State.scanDuties]
    split
    · exact ih s
    · split
      · exact ih s
      · split
        · split <;> simp [ih]
        · exact ih s

@[simp] theorem scan_lasting (s : State) : s.scan.lasting = s.lasting := by
  simp only [State.scan]
  split
  · rfl
  · exact scanDuties_lasting _ s

@[simp] theorem lapseRecord_lasting (d : Duty) (e : Ev) : (e.lapseRecord d).s.lasting = e.s.lasting := by
  simp only [Ev.lapseRecord]
  split
  · simp
  · split <;> simp

@[simp] theorem lapseDuty_lasting (d : Duty) (e : Ev) : (e.lapseDuty d).s.lasting = e.s.lasting := by
  simp only [Ev.lapseDuty]
  split <;> simp

@[simp] theorem lapseTest_lasting (e : Ev) : e.lapseTest.s.lasting = e.s.lasting :=
  foldlEv_lasting _ (fun x d => (firePass_lasting _).trans (lapseDuty_lasting d x)) _ e

theorem autoBindOne_lasting (e : Ev) (d : Duty) : (e.autoBindOne d).s.lasting = e.s.lasting := by
  simp only [Ev.autoBindOne]
  split
  · simp
  · split <;> simp

@[simp] theorem autoBind_lasting (e : Ev) : e.autoBind.s.lasting = e.s.lasting :=
  foldlEv_lasting _ autoBindOne_lasting _ e

@[simp] theorem pullOut_lasting (e : Ev) : e.pullOut.s.lasting = e.s.lasting := by simp [Ev.pullOut]

/-- The roster's rollover touches no lasting part: it lapses, removes and advances duties. -/
@[simp] theorem rosterRollover_lasting (e : Ev) : e.rosterRollover.s.lasting = e.s.lasting := by
  have lapses : ∀ l : List Duty, (l.foldl (fun x d => x.lapseRecord d) e).s.lasting = e.s.lasting := fun l =>
    foldlEv_lasting _ (fun x d => lapseRecord_lasting d x) l e
  simp only [Ev.rosterRollover]
  split <;> simp [State.advanceRoster, lapses]

/-! ### Stations and queues -/

@[simp] theorem testLong_lasting (st : Station) (s : State) : (s.testLong st).lasting = s.lasting := by
  simp only [State.testLong]
  split
  · simp
  · split <;> simp

@[simp] theorem testLongs_lasting (due : Station → Bool) (s : State) : (s.testLongs due).lasting = s.lasting := by
  simp only [State.testLongs]
  split <;> split <;> simp

@[simp] theorem leaveQueue_lasting (st : Station) (f : Nat) (s : State) : (s.leaveQueue st f).lasting = s.lasting := by
  cases st <;> rfl

@[simp] theorem enqueue_lasting (st : Station) (f : Nat) (s : State) : (s.enqueue st f).lasting = s.lasting := by
  cases st <;> rfl

@[simp] theorem takeHead_lasting (u : UnitId) (s : State) : (s.takeHead u).lasting = s.lasting := by
  simp only [State.takeHead]
  split
  · split
    · rfl
    · rw [post_lasting, modVehicle_lasting, setUnit_lasting, leaveQueue_lasting]
      exact fun _ => rfl
  · rfl

@[simp] theorem serve_lasting (st : Station) (s : State) : (s.serve st).lasting = s.lasting := by simp [State.serve]

@[simp] theorem overrun_lasting (u : UnitId) (s : State) : (s.overrun u).lasting = s.lasting := by
  simp only [State.overrun]
  split <;> simp

theorem tickUnit_lasting (s : State) (u : UnitId) : (s.tickUnit u).lasting = s.lasting := by
  simp only [State.tickUnit]
  split
  · split <;> simp
  · rfl

@[simp] theorem tickUnits_lasting (s : State) : s.tickUnits.lasting = s.lasting := foldl_lasting _ tickUnit_lasting _ s

/-! ### Placement -/

@[simp] theorem reserve_lasting (f : Nat) (l : LaneId) (stage : Nat) (s : State) :
    (s.reserve f l stage).lasting = s.lasting := by
  have h : ((s.modLane l (fun x => { x with reserved := x.reserved ++ [f] })).modVehicle f
      (fun v => { v with state := .placing, placedAt := some s.clock.minute })).lasting = s.lasting :=
    modVehicle_lasting f _ (s.modLane l _) fun _ => rfl
  simp only [State.reserve]
  split
  · exact h
  · split
    · exact (post_lasting _ _ _).trans h
    · exact h

@[simp] theorem joinApron_lasting (f : Nat) (s : State) : (s.joinApron f).lasting = s.lasting :=
  modVehicle_lasting f _ (s.setApron _) fun _ => rfl

@[simp] theorem joinUnplaced_lasting (f : Nat) (p : PortId) (s : State) : (s.joinUnplaced f p).lasting = s.lasting :=
  modVehicle_lasting f _ (s.setUnplaced _) fun _ => rfl

@[simp] theorem joinQueue_lasting (st : Station) (f : Nat) (s : State) : (s.joinQueue st f).lasting = s.lasting := by
  rw [State.joinQueue, serve_lasting, modVehicle_lasting, enqueue_lasting]
  exact fun _ => rfl

@[simp] theorem enter_lasting (f : Nat) (d : Disp) (s : State) : (s.enter f d).lasting = s.lasting := by
  cases d <;> simp [State.enter]

@[simp] theorem carryOut_lasting (f : Nat) (p : Plan) (s : State) : (s.carryOut f p).lasting = s.lasting := by
  rw [State.carryOut, enter_lasting, modVehicle_lasting]
  exact fun v => oweAll_lasting p.skipped v

@[simp] theorem tellRoute_lasting (p : PortId) (f : Nat) (s : State) : (s.tellRoute p f).lasting = s.lasting :=
  post_lasting _ _ s

@[simp] theorem continueRoute_lasting (f : Nat) (s : State) : (s.continueRoute f).lasting = s.lasting := by
  simp only [State.continueRoute]
  split
  · rfl
  · split <;> simp

theorem flushOne_lasting (st : Station) (s : State) (f : Nat) : (s.flushOne st f).lasting = s.lasting := by
  rw [State.flushOne, continueRoute_lasting, modVehicle_lasting, leaveQueue_lasting]
  exact fun v => owe_lasting (v.endStep st) st

@[simp] theorem flush_lasting (st : Station) (s : State) : (s.flush st).lasting = s.lasting :=
  (foldl_lasting _ (flushOne_lasting st) _ _).trans (post_lasting _ _ s)

@[simp] theorem stationTest_lasting (wasOpen : Bool) (st : Station) (s : State) :
    (s.stationTest wasOpen st).lasting = s.lasting := by
  simp only [State.stationTest]
  split <;> simp

@[simp] theorem releaseUnit_lasting (u : UnitId) (s : State) : (s.releaseUnit u).lasting = s.lasting := by
  simp [State.releaseUnit, State.settle, State.vacate]

theorem sweepUnplaced_lasting (s : State) (x : Unplaced) : (s.sweepUnplaced x).lasting = s.lasting := by
  simp only [State.sweepUnplaced]
  split
  · rfl
  · split <;> simp

theorem sweepApron_lasting (s : State) (f : Nat) : (s.sweepApron f).lasting = s.lasting := by
  simp only [State.sweepApron]
  split
  · rfl
  · split <;> simp

theorem sweepUnit_lasting (s : State) (u : UnitId) : (s.sweepUnit u).lasting = s.lasting := by
  simp only [State.sweepUnit]
  split
  · split
    · rfl
    · split <;> simp
  · rfl

@[simp] theorem sweep_lasting (s : State) : s.sweep.lasting = s.lasting := by
  simp only [State.sweep, foldl_lasting _ sweepUnit_lasting, foldl_lasting _ sweepApron_lasting,
    foldl_lasting _ sweepUnplaced_lasting]

@[simp] theorem sweepEnd_lasting (s : State) : s.sweepEnd.lasting = s.lasting := by simp [State.sweepEnd]

theorem testOverdue_lasting (age : Nat → Nat) (s : State) (f : Nat) : (s.testOverdue age f).lasting = s.lasting := by
  simp only [State.testOverdue]
  split
  · rfl
  · split
    · split
      · rw [modVehicle_lasting, post_lasting]
        exact fun _ => rfl
      · rfl
    · rfl

@[simp] theorem testOverdueAll_lasting (age : Nat → Nat) (s : State) : (s.testOverdueAll age).lasting = s.lasting :=
  foldl_lasting _ (testOverdue_lasting age) _ s

/-! ### The end of an event, and how a request is taken and answered -/

@[simp] theorem close_lasting (e : Ev) (s : State) : (e.close s).lasting = s.lasting := by
  simp only [Ev.close]
  split <;> split <;> simp

@[simp] theorem finish_lasting (s0 : State) (e : Ev) : (e.finish s0).lasting = e.s.lasting := by simp [Ev.finish]

@[simp] theorem takeRequest_lasting (h : Hdr) (code : Nat) (s : State) :
    (s.takeRequest h code).lasting = s.lasting := by
  rw [takeRequest_eq]
  rfl

@[simp] theorem takeRequest_clock (h : Hdr) (code : Nat) (s : State) : (s.takeRequest h code).clock = s.clock := by
  rw [takeRequest_eq]

@[simp] theorem respond_lasting (h : Hdr) (code : Nat) (a : Answer) (s : State) :
    (s.respond h code a).lasting = s.lasting := rfl

theorem respond_answerOn (h : Hdr) (code : Nat) (a : Answer) (s : State) :
    (s.respond h code a).answerOn h.port = some a := by
  simp only [State.answerOn, respond_port, Option.map_some]

/-! ### One piece of work in every order of the blocks' work (log 2) -/

/-- What only the work `a` changes, a clock event without `a` keeps. -/
theorem runWorks_eq_of_notMem {β : Type} (m : ClockEv → β) (a : Work) (rank : Work → Nat)
    (run : Work → ClockEv → ClockEv) (keeps : ∀ w x, w ≠ a → m (run w x) = m x) (n : Nat) (left : List Work)
    (x : ClockEv) (ha : a ∉ left) : m (runWorks rank run n left x) = m x := by
  induction n generalizing left x with
  | zero => rfl
  | succ n ih =>
    simp only [runWorks]
    split
    · rfl
    · rename_i w hw
      have hmem : w ∈ left := List.mem_of_mem_filter (mostUrgent_mem rank _ w hw)
      rw [ih _ _ fun h => ha (List.mem_of_mem_erase h), keeps w x fun e => ha (e ▸ hmem)]

theorem mostUrgent_eq_none (rank : Work → Nat) (l : List Work) (h : mostUrgent rank l = none) : l = [] := by
  cases l with
  | nil => rfl
  | cons w rest =>
    simp only [mostUrgent] at h
    split at h
    · cases h
    · split at h <;> cases h

/-- A work `a` that waits for nothing is taken once: what only `a` changes, by `g`, the clock event changes by `g`. -/
theorem runWorks_once {β : Type} (m : ClockEv → β) (g : β → β) (a : Work) (free : workBefore a = [])
    (rank : Work → Nat) (run : Work → ClockEv → ClockEv) (keeps : ∀ w x, w ≠ a → m (run w x) = m x)
    (does : ∀ x, m (run a x) = g (m x)) (n : Nat) (left : List Work) (x : ClockEv) (ha : a ∈ left)
    (nodup : left.Nodup) (enough : left.length ≤ n) : m (runWorks rank run n left x) = g (m x) := by
  induction n generalizing left x with
  | zero =>
    rw [List.eq_nil_of_length_eq_zero (Nat.le_zero.1 enough)] at ha
    cases ha
  | succ n ih =>
    simp only [runWorks]
    split
    · rename_i hw
      have hready : a ∈ left.filter (ready left) := List.mem_filter.2 ⟨ha, by simp [ready, free]⟩
      rw [mostUrgent_eq_none rank _ hw] at hready
      cases hready
    · rename_i w hw
      have hmem : w ∈ left := List.mem_of_mem_filter (mostUrgent_mem rank _ w hw)
      by_cases hwa : w = a
      · subst hwa
        rw [runWorks_eq_of_notMem m w rank run keeps _ _ _ nodup.not_mem_erase, does]
      · have hlen : (left.erase w).length ≤ n := by
          rw [List.length_erase_of_mem hmem]
          omega
        rw [ih _ _ ((List.mem_erase_of_ne (Ne.symm hwa)).2 ha) (nodup.erase w) hlen, keeps w x hwa]

/-! ### The rollover of the wash-day counters (R18) -/

/-- The record after a clock event that delivers a rollover, or none. -/
def Vehicle.rolledIf (rollover : Bool) (v : Vehicle) : Vehicle := if rollover then v.rollover else v

@[simp] theorem rolledIf_number (b : Bool) (v : Vehicle) : (v.rolledIf b).number = v.number := by cases b <;> rfl

@[simp] theorem map_rolledIf_false (l : List Vehicle) : l.map (Vehicle.rolledIf false) = l := List.map_id' l

theorem runWork_fleetRollover_lasting (dayStart d : Nat) (age : Nat → Nat) (x : ClockEv) :
    (runWork dayStart d age .fleetRollover x).e.s.lasting = x.e.s.lasting.map Vehicle.rollover :=
  mapFleet_lasting Vehicle.rollover Vehicle.rollover x.e.s rollover_lasting

/-- Every other piece of work keeps the lasting parts. -/
theorem runWork_lasting (dayStart d : Nat) (age : Nat → Nat) (w : Work) (x : ClockEv) (hw : w ≠ .fleetRollover) :
    (runWork dayStart d age w x).e.s.lasting = x.e.s.lasting := by
  cases w with
  | fleetRollover => exact absurd rfl hw
  | rolloverSweep =>
    simp only [runWork]
    split <;> simp
  | rosterRollover => exact rosterRollover_lasting { x.e with sweep := false }
  | rolloverNotice => exact post_lasting _ _ x.e.s
  | dayStartChange | laneKeys | placement | stations | charge | pullOut => simp [runWork]

theorem worksOf_nodup (rollover dayStartMoves : Bool) : (worksOf rollover dayStartMoves).Nodup := by
  cases rollover <;> cases dayStartMoves <;> decide

theorem fleetRollover_mem_worksOf (rollover dayStartMoves : Bool) :
    Work.fleetRollover ∈ worksOf rollover dayStartMoves ↔ rollover = true := by
  cases rollover <;> cases dayStartMoves <;> decide

/-- The events that the clock delivers roll every record over once if they hold a rollover event, and not at all otherwise. -/
theorem deliver_lasting (rollover : Bool) (d : Nat) (age : Nat → Nat) (s : State) :
    (s.deliver rollover d age).lasting = s.lasting.map (Vehicle.rolledIf rollover) := by
  have keeps := fun w x => runWork_lasting s.clock.sEff d age w x
  simp only [State.deliver, State.deliverWith, finish_lasting]
  cases rollover with
  | false =>
    exact (runWorks_eq_of_notMem (fun x => x.e.s.lasting) .fleetRollover _ _ keeps _ _ _
      (by simp [fleetRollover_mem_worksOf])).trans (map_rolledIf_false _).symm
  | true =>
    exact runWorks_once (fun x => x.e.s.lasting) (List.map Vehicle.rollover) .fleetRollover rfl _ _ keeps
      (runWork_fleetRollover_lasting s.clock.sEff d age) _ _ _ ((fleetRollover_mem_worksOf _ _).2 rfl)
      (worksOf_nodup _ _) le_rfl

/-- The next minute, modulo 1440 (R151). -/
theorem tick_minute (c : Clock) (h : c.minute < 1440) : c.tick.minute = (c.minute + 1) % 1440 := by
  simp only [Clock.tick]
  split
  · rename_i e
    rw [e]
  · rename_i e
    have hlt : c.minute + 1 < 1440 := by omega
    exact (Nat.mod_eq_of_lt hlt).symm

theorem tick_sEff (c : Clock) : c.tick.sEff = c.sEff := by
  simp only [Clock.tick]
  split <;> rfl

theorem boundary_lasting (s : State) (h : s.clock.minute < 1440) :
    s.boundary.lasting = s.lasting.map (Vehicle.rolledIf ((s.clock.minute + 1) % 1440 == s.clock.sEff)) := by
  simp only [State.boundary, deliver_lasting, setClockFields_lasting, State.setClockFields_clock, tick_minute _ h, tick_sEff]

theorem restamp_lasting (m1 : Nat) (s : State) : (s.mapFleet (Vehicle.restamp m1)).lasting = s.lasting :=
  (mapFleet_lasting (Vehicle.restamp m1) id s fun _ => rfl).trans (List.map_id _)

/-- A jump rolls every record over once, however long it is, and only if its span holds S in effect. -/
theorem jump_lasting (m1 d1 : Nat) (s : State) :
    (s.jump m1 d1).lasting = s.lasting.map (Vehicle.rolledIf (s.clock.jumpRollsOver m1 d1)) := by
  have noRollover (h : s.clock.classify m1 d1 ≠ .forward) : s.clock.jumpRollsOver m1 d1 = false := by
    simp [Clock.jumpRollsOver, h]
  simp only [State.jump]
  cases h : s.clock.classify m1 d1 with
  | same => simp [noRollover, h]
  | first | backward => simp [noRollover, h, deliver_lasting, restamp_lasting]
  | forward => exact deliver_lasting _ _ _ _

theorem answered_jump_lasting (h : Hdr) (code : Nat) (a : Answer) (m1 d1 : Nat) (s : State) :
    (((s.takeRequest h code).jump m1 d1).respond h code a).lasting =
      s.lasting.map (Vehicle.rolledIf (s.clock.jumpRollsOver m1 d1)) := by
  rw [respond_lasting, jump_lasting, takeRequest_lasting, takeRequest_clock]

/-- The same record after a clock event: the counter and ran today are as R18 says. -/
theorem vehicle?_of_rolled {s t : State} {f : Nat} {v : Vehicle} (b : Bool)
    (h : t.lasting = s.lasting.map (Vehicle.rolledIf b)) (hv : s.vehicle? f = some v) :
    ∃ w, t.vehicle? f = some w ∧
      (b = true → w.ranToday = false ∧ w.washDays = (if v.ranToday then min (v.washDays + 1) 15 else v.washDays)) ∧
      (b = false → w.ranToday = v.ranToday ∧ w.washDays = v.washDays) ∧ (v.washDays ≤ 15 → w.washDays ≤ 15) := by
  have hf : (t.vehicle? f).map Vehicle.lasting = some (v.lasting.rolledIf b) := by
    rw [← find?_lasting, h, find?_map_number _ _ _ _ fun _ _ => rolledIf_number b _, find?_lasting, hv]
    rfl
  obtain ⟨w, hw, e⟩ := Option.map_eq_some_iff.1 hf
  have hran : w.ranToday = (v.lasting.rolledIf b).ranToday := (congrArg Vehicle.ranToday e :)
  have hdays : w.washDays = (v.lasting.rolledIf b).washDays := (congrArg Vehicle.washDays e :)
  refine ⟨w, hw, ?_⟩
  rw [hran, hdays]
  cases b with
  | false => exact ⟨nofun, fun _ => ⟨rfl, rfl⟩, fun k => k⟩
  | true =>
    refine ⟨fun _ => ⟨rfl, rfl⟩, nofun, fun k => ?_⟩
    change (if v.ranToday then min (v.washDays + 1) 15 else v.washDays) ≤ 15
    split <;> omega

theorem exec_minuteEvent (s : State) : exec .minuteEvent s = execMinuteEvent s := rfl

theorem exec_setClock (h : Hdr) (m1 d1 : Nat) (s : State) : exec (.setClock h m1 d1) s = execSetClock h m1 d1 s := rfl

theorem exec_minuteEvent_set (s : State) (hr : s.power = .running) (hu : s.clock.unset = false) :
    exec .minuteEvent s = .next s.boundary := by
  rw [exec_minuteEvent, execMinuteEvent, event_running _ s hr, hu]
  rfl

/-- A SET_CLOCK that is taken, with a minute of the day, is accepted. -/
theorem exec_setClock_accepted (h : Hdr) (m1 d1 : Nat) (s : State) (hc : Clear h 0x10 s) (hl : h.len = 5)
    (hm : m1 ≤ 1439) :
    exec (.setClock h m1 d1) s = .next (((s.takeRequest h 0x10).jump m1 (d1 % 65536)).respond h 0x10
      (.accept (.clock (s.clock.jumpReport m1 (d1 % 65536))))) := by
  rw [exec_setClock, execSetClock, request_clear h .setClock _ _ s (by simp [hl]) hc]
  simp only [ReqKind.code, if_neg (Nat.not_lt.2 hm), takeRequest_clock]

/-- Settles O16: the rollover is one piece of the work of a clock event, taken once in any order of the blocks' work, and
everything else on a clock event keeps the lasting part of every record. -/
theorem washDaysAtRollover : Obligations.WashDaysAtRollover := by
  unfold Obligations.WashDaysAtRollover
  intro s f v hr hv
  constructor
  · intro hu hm
    obtain ⟨w, hw, hroll, hnot, hbound⟩ := vehicle?_of_rolled _ (boundary_lasting s hm) hv
    exact ⟨_, w, exec_minuteEvent_set s hr hu, hw, fun e => hroll (by simpa using e), fun e => hnot (by simpa using e),
      hbound⟩
  · intro h m1 d1 hc hl hm _
    obtain ⟨w, hw, hroll, hnot, hbound⟩ := vehicle?_of_rolled _ (answered_jump_lasting h 0x10
      (.accept (.clock (s.clock.jumpReport m1 (d1 % 65536)))) m1 (d1 % 65536) s) hv
    exact ⟨_, w, _, exec_setClock_accepted h m1 d1 s hc hl hm, hw, respond_answerOn h _ _ _, hroll, hnot, hbound⟩

end Sys2Proof.Machine
end

section
/-! SUPPORT. The first seven stages of an allotment pass (R104 to R108): the time budget and the need of a vehicle, the
priority order, the split of a group's budget with its leftover, and the cut of small grants. -/

namespace Sys2Proof.Machine

/-! ### The time budget (R104) -/

theorem minutesFrom_lt (start minute : Nat) : minutesFrom start minute < 1440 := Nat.mod_lt _ (by decide)

theorem budget_of_current (x : Snapshot) (v : SnapVehicle) (due : Nat) (h : v.duty = some (.current, due)) :
    x.budget v = minutesFrom x.dayStart due - (x.serviceMinute : Int) - x.margin := by simp only [Snapshot.budget, h]

theorem budget_of_next (x : Snapshot) (v : SnapVehicle) (due : Nat) (h : v.duty = some (.next, due)) :
    x.budget v = 1440 - (x.serviceMinute : Int) + minutesFrom x.dayStart due - x.margin := by
  simp only [Snapshot.budget, h]

theorem budget_of_unbound (x : Snapshot) (v : SnapVehicle) (h : v.duty = none) :
    x.budget v =
      (if minutesFrom x.minute x.readyBy = 0 then (1440 : Int) else minutesFrom x.minute x.readyBy) - x.margin := by
  simp only [Snapshot.budget, h]

theorem budget_range_of_bound (x : Snapshot) (v : SnapVehicle) (hs : x.serviceMinute ≤ 1439) (hm : x.margin ≤ 60)
    (h : v.duty ≠ none) : -1499 ≤ x.budget v ∧ x.budget v ≤ 2879 := by
  obtain ⟨⟨day, due⟩, hd⟩ := Option.ne_none_iff_exists'.1 h
  have hdue := minutesFrom_lt x.dayStart due
  cases day with
  | current => rw [budget_of_current x v due hd]; omega
  | next => rw [budget_of_next x v due hd]; omega

theorem budget_range_of_unbound (x : Snapshot) (v : SnapVehicle) (hm : x.margin ≤ 60) (h : v.duty = none) :
    -59 ≤ x.budget v ∧ x.budget v ≤ 1440 := by
  have hready := minutesFrom_lt x.minute x.readyBy
  rw [budget_of_unbound x v h]
  split <;> omega

/-- Settles O48, by the tag of the bound duty; the range follows from the bound on a distance of minutes. -/
theorem timeBudget : Obligations.TimeBudget := by
  unfold Obligations.TimeBudget
  exact fun x v => ⟨fun due => budget_of_current x v due, fun due => budget_of_next x v due, budget_of_unbound x v,
    fun hs hm => ⟨budget_range_of_bound x v hs hm, budget_range_of_unbound x v hm⟩⟩

/-! ### The need (R105) -/

/-- The quotient rounded up is the least number that covers the dividend. -/
theorem ceilDiv_le_iff (a b n : Nat) (hb : 0 < b) : ceilDiv a b ≤ n ↔ a ≤ n * b := by
  rw [mul_comm]
  exact ceilDiv_le_iff_le_mul hb

theorem ceilDiv_pos (a b : Nat) (ha : 0 < a) (hb : 0 < b) : 0 < ceilDiv a b := by
  rw [← not_le, ceilDiv_le_iff a b 0 hb]
  omega

theorem need_of_stale (x : Snapshot) (v : SnapVehicle) (h : v.stale = true) :
    x.need v = min (x.need { v with stale := false }) x.fallback := by
  simp only [Snapshot.need, h]
  rfl

theorem need_of_runOut (x : Snapshot) (v : SnapVehicle) (h : v.stale = false) (ht : x.budget v ≤ 0) :
    x.need v = v.rating := by simp [Snapshot.need, h, ht]

theorem need_of_budget (x : Snapshot) (v : SnapVehicle) (h : v.stale = false) (ht : 0 < x.budget v) :
    x.need v = min v.rating (ceilDiv (6 * v.remaining) (x.budget v).toNat) := by
  simp [Snapshot.need, h, not_le.2 ht]

theorem need_le_fallback (x : Snapshot) (v : SnapVehicle) (h : v.stale = true) : x.need v ≤ x.fallback :=
  need_of_stale x v h ▸ min_le_right _ _

/-- One kW less than the need does not reach the target within the budget, and a need below the rating does. -/
theorem need_is_least (x : Snapshot) (v : SnapVehicle) (hrem : 1 ≤ v.remaining) (h : v.stale = false)
    (ht : 0 < x.budget v) :
    (x.need v - 1) * (x.budget v).toNat < 6 * v.remaining ∧
    (x.need v < v.rating → 6 * v.remaining ≤ x.need v * (x.budget v).toNat) := by
  have covers := fun n => ceilDiv_le_iff (6 * v.remaining) (x.budget v).toNat n (by omega)
  have hpos := ceilDiv_pos (6 * v.remaining) (x.budget v).toNat (by omega) (by omega)
  rw [need_of_budget x v h ht]
  constructor
  · rw [← not_le, ← covers]
    omega
  · intro hlt
    rw [← covers]
    omega

theorem need_within_rating (x : Snapshot) (v : SnapVehicle) (hrem : 1 ≤ v.remaining) (hrat : 1 ≤ v.rating)
    (h : v.stale = false) : Within 1 v.rating (x.need v) := by
  rcases le_or_gt (x.budget v) 0 with ht | ht
  · rw [need_of_runOut x v h ht]
    exact ⟨hrat, le_rfl⟩
  · rw [need_of_budget x v h ht]
    exact ⟨le_min hrat (ceilDiv_pos _ _ (by omega) (by omega)), min_le_left _ _⟩

/-! ### The priority order (R105) -/

/-- One vehicle may stand before another in the priority order: equal places are allowed. -/
def Snapshot.InOrder (x : Snapshot) (a b : SnapVehicle) : Prop :=
  x.budget a < x.budget b ∨ (x.budget a = x.budget b ∧ a.number ≤ b.number)

theorem inOrder_trans (x : Snapshot) (a b c : SnapVehicle) (hab : x.InOrder a b) (hbc : x.InOrder b c) :
    x.InOrder a c := by
  unfold Snapshot.InOrder at *
  omega

theorem priorTo_iff (x : Snapshot) (a b : SnapVehicle) :
    x.priorTo a b = true ↔ x.budget a < x.budget b ∨ (x.budget a = x.budget b ∧ a.number < b.number) := by
  simp [Snapshot.priorTo]

theorem inOrder_of_priorTo (x : Snapshot) (a b : SnapVehicle) (h : x.priorTo a b = true) : x.InOrder a b :=
  ((priorTo_iff x a b).1 h).imp_right fun ⟨hb, hn⟩ => ⟨hb, hn.le⟩

theorem inOrder_of_not_priorTo (x : Snapshot) (a b : SnapVehicle) (h : x.priorTo a b = false) : x.InOrder b a := by
  have := (priorTo_iff x a b).not.1 (by simp [h])
  unfold Snapshot.InOrder
  omega

theorem ordered_map_v (x : Snapshot) : x.ordered.map Alloc.v = sortBy x.priorTo x.vehicles := by
  simp [Snapshot.ordered, Function.comp_def]

theorem ordered_perm (x : Snapshot) : (x.ordered.map Alloc.v).Perm x.vehicles :=
  ordered_map_v x ▸ sortBy_perm x.priorTo x.vehicles

theorem ordered_pairwise (x : Snapshot) : x.ordered.Pairwise (fun a b => x.InOrder a.v b.v) := by
  rw [← List.pairwise_map (f := Alloc.v) (R := x.InOrder), ordered_map_v]
  exact sortBy_pairwise _ _ (inOrder_trans x) (inOrder_of_priorTo x) (inOrder_of_not_priorTo x) _

theorem mem_ordered (x : Snapshot) (a : Alloc) (h : a ∈ x.ordered) : a.need = x.need a.v ∧ a.grant = 0 := by
  obtain ⟨v, _, rfl⟩ := List.mem_map.1 h
  exact ⟨rfl, rfl⟩

/-- Settles O49: the rounded-up quotient is the least power that covers the remaining energy, and stage 3 is a sort by the
order of the budgets and fleet numbers. -/
theorem needAndPriority : Obligations.NeedAndPriority := by
  unfold Obligations.NeedAndPriority
  refine ⟨fun x v hrem hrat => ⟨need_of_stale x v, fun h => ?_⟩, fun x => ?_⟩
  · exact ⟨need_within_rating x v hrem hrat h, need_of_runOut x v h, need_is_least x v hrem h⟩
  · exact ⟨ordered_perm x, fun a ha => (mem_ordered x a ha).1, ordered_pairwise x⟩

/-! ### Grants of one group -/

theorem mem_inGroup (g : Fin 4) (l : List Alloc) (a : Alloc) : a ∈ inGroup g l ↔ a ∈ l ∧ a.v.group = g := by
  simp [inGroup]

/-- The grants of one group set by a rule. -/
def setGrants (g : Fin 4) (f : Alloc → Nat) (l : List Alloc) : List Alloc :=
  l.map (fun a => if a.v.group = g then { a with grant := f a } else a)

theorem map_setGrants {β : Type} (k : Alloc → β) (hk : ∀ a n, k { a with grant := n } = k a) (g : Fin 4)
    (f : Alloc → Nat) (l : List Alloc) : (setGrants g f l).map k = l.map k := by
  rw [setGrants, List.map_map]
  refine List.map_congr_left fun a _ => ?_
  rw [Function.comp_apply]
  split
  · exact hk a _
  · rfl

theorem filter_other_setGrants (g : Fin 4) (f : Alloc → Nat) (l : List Alloc) :
    (setGrants g f l).filter (fun a => a.v.group != g) = l.filter (fun a => a.v.group != g) := by
  induction l with
  | nil => rfl
  | cons a l ih =>
    rw [setGrants] at ih
    by_cases h : a.v.group = g <;> simp [setGrants, h, ih]

theorem inGroup_setGrants (g : Fin 4) (f : Alloc → Nat) (l : List Alloc) :
    inGroup g (setGrants g f l) = (inGroup g l).map (fun a => { a with grant := f a }) := by
  induction l with
  | nil => rfl
  | cons a l ih =>
    rw [setGrants, inGroup] at ih
    by_cases h : a.v.group = g <;> simp [inGroup, setGrants, h, ih]

theorem grantSum_map (f : Alloc → Nat) (l : List Alloc) :
    grantSum (l.map (fun a => { a with grant := f a })) = (l.map f).sum := by simp [grantSum, Function.comp_def]

theorem grantSum_inGroup_cons (g : Fin 4) (a : Alloc) (l : List Alloc) :
    grantSum (inGroup g (a :: l)) = (if a.v.group = g then a.grant else 0) + grantSum (inGroup g l) := by
  by_cases h : a.v.group = g <;> simp [inGroup, grantSum, h]

/-! ### The leftover of a group (R107) -/

/-- The vehicles of a group whose need is above 0. -/
def needy (g : Fin 4) (l : List Alloc) : List Alloc := (inGroup g l).filter (fun a => 0 < a.need)

theorem needy_cons_of (g : Fin 4) (a : Alloc) (l : List Alloc) (h : a.v.group = g ∧ 0 < a.need) :
    needy g (a :: l) = a :: needy g l := by simp [needy, inGroup, h]

theorem needy_cons_of_not (g : Fin 4) (a : Alloc) (l : List Alloc) (h : ¬(a.v.group = g ∧ 0 < a.need)) :
    needy g (a :: l) = needy g l := by
  by_cases hg : a.v.group = g
  · have hn : a.need = 0 := by simpa [hg] using h
    simp [needy, inGroup, hg, hn]
  · simp [needy, inGroup, hg]

theorem needy_setGrants (g : Fin 4) (f : Alloc → Nat) (l : List Alloc) :
    needy g (setGrants g f l) = (needy g l).map (fun a => { a with grant := f a }) := by
  simp [needy, inGroup_setGrants, List.filter_map, Function.comp_def]

theorem handUnits_zero (g : Fin 4) (l : List Alloc) : handUnits g 0 l = l := by cases l <;> rfl

theorem handUnits_nil (g : Fin 4) (left : Nat) : handUnits g left [] = [] := by cases left <;> rfl

/-- A vehicle of the group with a need receives 1 kW while leftover remains. -/
theorem handUnits_cons_of (g : Fin 4) (left : Nat) (a : Alloc) (l : List Alloc) (h : a.v.group = g ∧ 0 < a.need) :
    handUnits g left (a :: l) =
      { a with grant := a.grant + (if 0 < left then 1 else 0) } :: handUnits g (left - 1) l := by
  cases left with
  | zero => simp [handUnits_zero]
  | succ left => simp [handUnits, h]

theorem handUnits_cons_of_not (g : Fin 4) (left : Nat) (a : Alloc) (l : List Alloc)
    (h : ¬(a.v.group = g ∧ 0 < a.need)) : handUnits g left (a :: l) = a :: handUnits g left l := by
  cases left with
  | zero => simp [handUnits_zero]
  | succ left => rw [handUnits, if_neg h]

theorem map_handUnits {β : Type} (k : Alloc → β) (hk : ∀ a n, k { a with grant := n } = k a) (g : Fin 4) (left : Nat)
    (l : List Alloc) : (handUnits g left l).map k = l.map k := by
  induction l generalizing left with
  | nil => rw [handUnits_nil]
  | cons a l ih =>
    by_cases h : a.v.group = g ∧ 0 < a.need
    · simp [handUnits_cons_of g left a l h, hk, ih]
    · simp [handUnits_cons_of_not g left a l h, ih]

/-- What a test sees of the vehicles that receive nothing stands. -/
theorem filter_handUnits (p : Alloc → Bool) (g : Fin 4)
    (hp : ∀ (a : Alloc) n, a.v.group = g ∧ 0 < a.need → p { a with grant := n } = false) (left : Nat)
    (l : List Alloc) : (handUnits g left l).filter p = l.filter p := by
  induction l generalizing left with
  | nil => rw [handUnits_nil]
  | cons a l ih =>
    by_cases h : a.v.group = g ∧ 0 < a.need
    · simp [handUnits_cons_of g left a l h, hp a _ h, ih]
    · simp [handUnits_cons_of_not g left a l h, List.filter_cons, ih]

theorem needless_handUnits (g : Fin 4) (left : Nat) (l : List Alloc) :
    (inGroup g (handUnits g left l)).filter (fun a => a.need = 0) = (inGroup g l).filter (fun a => a.need = 0) := by
  rw [inGroup, inGroup, List.filter_filter, List.filter_filter]
  exact filter_handUnits _ g (fun a n ha => by simp [ha.2.ne']) left l

/-- The first of the vehicles with a need, as many as there is leftover, are those that receive 1 kW. -/
theorem needy_handUnits (g : Fin 4) (left k : Nat) (l : List Alloc) :
    needy g (handUnits g (left - k) l) =
      ((needy g l).zipIdx k).map (fun p => { p.1 with grant := p.1.grant + (if p.2 < left then 1 else 0) }) := by
  induction l generalizing k with
  | nil => simp [handUnits_nil, needy, inGroup]
  | cons a l ih =>
    by_cases h : a.v.group = g ∧ 0 < a.need
    · rw [handUnits_cons_of g _ a l h, needy_cons_of, needy_cons_of g a l h, Nat.sub_sub, ih (k + 1)]
      · simp
      · exact h
    · rw [handUnits_cons_of_not g _ a l h, needy_cons_of_not g a _ h, needy_cons_of_not g a l h, ih k]

theorem grantSum_inGroup_handUnits (g : Fin 4) (left : Nat) (l : List Alloc) :
    grantSum (inGroup g (handUnits g left l)) = grantSum (inGroup g l) + min left (needy g l).length := by
  induction l generalizing left with
  | nil => simp [handUnits_nil, needy, inGroup]
  | cons a l ih =>
    by_cases h : a.v.group = g ∧ 0 < a.need
    · rw [handUnits_cons_of g left a l h, needy_cons_of g a l h, grantSum_inGroup_cons, grantSum_inGroup_cons, ih,
        if_pos h.1, if_pos h.1, List.length_cons]
      dsimp only
      split <;> omega
    · rw [handUnits_cons_of_not g left a l h, needy_cons_of_not g a l h, grantSum_inGroup_cons,
        grantSum_inGroup_cons, ih, Nat.add_assoc]

theorem mem_handUnits (g : Fin 4) (left : Nat) (l : List Alloc) (a : Alloc) (h : a ∈ handUnits g left l) :
    a ∈ l ∨ ∃ b ∈ l, 0 < b.need ∧ a = { b with grant := b.grant + 1 } := by
  induction l generalizing left with
  | nil => simp [handUnits_nil] at h
  | cons b l ih =>
    have tail : ∀ left, a ∈ handUnits g left l →
        a ∈ b :: l ∨ ∃ c ∈ b :: l, 0 < c.need ∧ a = { c with grant := c.grant + 1 } := fun left hl =>
      (ih left hl).imp (List.mem_cons_of_mem b) fun ⟨c, hc, hr⟩ => ⟨c, List.mem_cons_of_mem b hc, hr⟩
    by_cases hb : b.v.group = g ∧ 0 < b.need
    · rw [handUnits_cons_of g left b l hb, List.mem_cons] at h
      rcases h with rfl | hl
      · by_cases hleft : 0 < left
        · exact .inr ⟨b, by simp, hb.2, by rw [if_pos hleft]⟩
        · exact .inl (by simp [hleft])
      · exact tail _ hl
    · rw [handUnits_cons_of_not g left b l hb, List.mem_cons] at h
      rcases h with rfl | hl
      · exact .inl (by simp)
      · exact tail _ hl

/-! ### The rounded-down shares (R107) -/

/-- Each share of a need above 0 loses less than 1 kW by its rounding, and that of a need of 0 nothing. -/
theorem sum_mul_lt_of_floors (budget d : Nat) (l : List Alloc) (hd : 0 < d) :
    (l.map Alloc.need).sum * budget + (l.filter (fun a => 0 < a.need)).length ≤
      d * ((l.map (fun a => a.need * budget / d)).sum + (l.filter (fun a => 0 < a.need)).length) := by
  induction l with
  | nil => simp
  | cons a l ih =>
    have hshare := Nat.lt_mul_div_succ (a.need * budget) hd
    by_cases hn : 0 < a.need
    · simp only [List.map_cons, List.sum_cons, List.filter_cons, hn, decide_true, if_true, List.length_cons]
      linarith
    · simp only [List.map_cons, List.sum_cons, List.filter_cons, Nat.eq_zero_of_not_pos hn]
      simpa using ih

theorem floors_mul_le (budget d : Nat) (l : List Alloc) :
    d * (l.map (fun a => a.need * budget / d)).sum ≤ (l.map Alloc.need).sum * budget := by
  induction l with
  | nil => simp
  | cons a l ih =>
    have hshare := Nat.mul_div_le (a.need * budget) d
    simp only [List.map_cons, List.sum_cons]
    linarith

theorem floors_le_budget (g : Fin 4) (budget : Nat) (l : List Alloc) (h : budget < demand g l) :
    ((inGroup g l).map (fun a => a.need * budget / demand g l)).sum ≤ budget :=
  Nat.le_of_mul_le_mul_left (floors_mul_le budget (demand g l) (inGroup g l)) (Nat.zero_lt_of_lt h)

/-- The leftover is less than the number of vehicles of the group with a need. -/
theorem leftover_lt_needy (g : Fin 4) (budget : Nat) (l : List Alloc) (h : budget < demand g l) :
    budget - ((inGroup g l).map (fun a => a.need * budget / demand g l)).sum < (needy g l).length := by
  have hd : 0 < demand g l := Nat.zero_lt_of_lt h
  have hneedy : 0 < (needy g l).length := by
    by_contra hnone
    have hnil : needy g l = [] := by simpa using hnone
    have hzero : demand g l = 0 := by
      simpa [needy, List.filter_eq_nil_iff, demand, List.sum_eq_zero_iff] using hnil
    omega
  have hloss := sum_mul_lt_of_floors budget (demand g l) (inGroup g l) hd
  have hlt : demand g l * budget <
      demand g l * (((inGroup g l).map (fun a => a.need * budget / demand g l)).sum + (needy g l).length) :=
    (Nat.lt_add_of_pos_right hneedy).trans_le hloss
  have := Nat.lt_of_mul_lt_mul_left hlt
  omega

theorem share_lt_need (need budget d : Nat) (hb : budget < d) (hn : 0 < need) : need * budget / d < need :=
  Nat.div_lt_of_lt_mul (by rw [mul_comm d]; exact Nat.mul_lt_mul_of_pos_left hb hn)

theorem share_le_need (need budget d : Nat) (hb : budget < d) : need * budget / d ≤ need :=
  Nat.div_le_of_le_mul (by rw [mul_comm d]; exact Nat.mul_le_mul_left need hb.le)

/-! ### The split of a group's budget (R107) -/

theorem splitGroup_of_fits (g : Fin 4) (budget : Nat) (l : List Alloc) (h : demand g l ≤ budget) :
    splitGroup g budget l = setGrants g Alloc.need l := if_pos h

/-- Where the needs do not fit, the shares are set and what they leave of the budget is handed out. -/
theorem splitGroup_of_short (g : Fin 4) (budget : Nat) (l : List Alloc) (h : budget < demand g l) :
    splitGroup g budget l =
      handUnits g (budget - ((inGroup g l).map (fun a => a.need * budget / demand g l)).sum)
        (setGrants g (fun a => a.need * budget / demand g l) l) := by
  rw [← grantSum_map, ← inGroup_setGrants]
  exact if_neg (not_le.2 h)

theorem map_splitGroup {β : Type} (k : Alloc → β) (hk : ∀ a n, k { a with grant := n } = k a) (g : Fin 4)
    (budget : Nat) (l : List Alloc) : (splitGroup g budget l).map k = l.map k := by
  rcases le_or_gt (demand g l) budget with h | h
  · rw [splitGroup_of_fits g budget l h, map_setGrants k hk]
  · rw [splitGroup_of_short g budget l h, map_handUnits k hk, map_setGrants k hk]

theorem filter_other_splitGroup (g : Fin 4) (budget : Nat) (l : List Alloc) :
    (splitGroup g budget l).filter (fun a => a.v.group != g) = l.filter (fun a => a.v.group != g) := by
  rcases le_or_gt (demand g l) budget with h | h
  · rw [splitGroup_of_fits g budget l h, filter_other_setGrants]
  · rw [splitGroup_of_short g budget l h, filter_handUnits _ g (fun a n ha => by simp [ha.1]), filter_other_setGrants]

theorem inGroup_splitGroup_of_fits (g : Fin 4) (budget : Nat) (l : List Alloc) (h : demand g l ≤ budget) :
    inGroup g (splitGroup g budget l) = (inGroup g l).map (fun a => { a with grant := a.need }) := by
  rw [splitGroup_of_fits g budget l h, inGroup_setGrants]

theorem grantSum_splitGroup_of_fits (g : Fin 4) (budget : Nat) (l : List Alloc) (h : demand g l ≤ budget) :
    grantSum (inGroup g (splitGroup g budget l)) = demand g l := by
  rw [inGroup_splitGroup_of_fits g budget l h, grantSum_map]
  rfl

/-- One sweep uses the leftover up. -/
theorem grantSum_splitGroup_of_short (g : Fin 4) (budget : Nat) (l : List Alloc) (h : budget < demand g l) :
    grantSum (inGroup g (splitGroup g budget l)) = budget := by
  have hfloors := floors_le_budget g budget l h
  have hleft := leftover_lt_needy g budget l h
  rw [splitGroup_of_short g budget l h, grantSum_inGroup_handUnits, needy_setGrants, List.length_map, inGroup_setGrants,
    grantSum_map]
  omega

theorem grantSum_splitGroup_le (g : Fin 4) (budget : Nat) (l : List Alloc) :
    grantSum (inGroup g (splitGroup g budget l)) ≤ budget := by
  rcases le_or_gt (demand g l) budget with h | h
  · rwa [grantSum_splitGroup_of_fits g budget l h]
  · rw [grantSum_splitGroup_of_short g budget l h]

/-- A vehicle that receives 1 kW of leftover has a share below its need. -/
theorem splitGroup_grant_le_need (g : Fin 4) (budget : Nat) (l : List Alloc) (a : Alloc)
    (ha : a ∈ inGroup g (splitGroup g budget l)) : a.grant ≤ a.need := by
  rcases le_or_gt (demand g l) budget with h | h
  · rw [inGroup_splitGroup_of_fits g budget l h] at ha
    obtain ⟨b, _, rfl⟩ := List.mem_map.1 ha
    exact le_rfl
  · rw [splitGroup_of_short g budget l h, mem_inGroup] at ha
    obtain ⟨hmem, hg⟩ := ha
    have shared : ∀ b ∈ setGrants g (fun a => a.need * budget / demand g l) l, b.v.group = g →
        b.grant = b.need * budget / demand g l := by
      intro b hb hbg
      have hin := (mem_inGroup g _ b).2 ⟨hb, hbg⟩
      rw [inGroup_setGrants] at hin
      obtain ⟨c, _, rfl⟩ := List.mem_map.1 hin
      rfl
    rcases mem_handUnits g _ _ a hmem with hb | ⟨b, hb, hn, rfl⟩
    · exact shared a hb hg ▸ share_le_need a.need budget _ h
    · exact shared b hb hg ▸ share_lt_need b.need budget _ h hn

theorem splitGroup_needless (g : Fin 4) (budget : Nat) (l : List Alloc) (h : budget < demand g l) :
    (inGroup g (splitGroup g budget l)).filter (fun a => a.need = 0) =
      ((inGroup g l).filter (fun a => a.need = 0)).map (fun a => { a with grant := 0 }) := by
  have hstand : (inGroup g (splitGroup g budget l)).filter (fun a => a.need = 0) =
      (inGroup g (setGrants g (fun a => a.need * budget / demand g l) l)).filter (fun a => a.need = 0) := by
    rw [splitGroup_of_short g budget l h, needless_handUnits]
  rw [hstand, inGroup_setGrants, List.filter_map]
  refine List.map_congr_left fun a ha => ?_
  have hn : a.need = 0 := by simpa using (List.mem_filter.1 ha).2
  simp [hn]

theorem splitGroup_needy (g : Fin 4) (budget : Nat) (l : List Alloc) (h : budget < demand g l) :
    needy g (splitGroup g budget l) = (needy g l).zipIdx.map (fun p =>
      { p.1 with grant := p.1.need * budget / demand g l +
          (if p.2 < budget - ((inGroup g l).map (fun a => a.need * budget / demand g l)).sum then 1 else 0) }) := by
  rw [splitGroup_of_short g budget l h]
  refine (needy_handUnits g _ 0 _).trans ?_
  rw [needy_setGrants, List.zipIdx_map, List.map_map]
  rfl

/-- Settles O51: the leftover is less than the number of vehicles with a need, so that one sweep hands it out. -/
theorem groupSplit : Obligations.GroupSplit := by
  unfold Obligations.GroupSplit
  intro g budget l
  exact ⟨map_splitGroup Alloc.v (fun _ _ => rfl) g budget l, map_splitGroup Alloc.need (fun _ _ => rfl) g budget l,
    filter_other_splitGroup g budget l, grantSum_splitGroup_le g budget l, splitGroup_grant_le_need g budget l,
    inGroup_splitGroup_of_fits g budget l, fun h => ⟨grantSum_splitGroup_of_short g budget l h,
      leftover_lt_needy g budget l h, splitGroup_needless g budget l h, splitGroup_needy g budget l h⟩⟩

/-! ### All groups, and the cut of small grants (R107, R108) -/

theorem map_splitGroups {β : Type} (k : Alloc → β) (hk : ∀ a n, k { a with grant := n } = k a) (budgets : List Nat)
    (l : List Alloc) : (splitGroups budgets l).map k = l.map k :=
  foldl_rel (fun l r : List Alloc => r.map k = l.map k) (fun _ => rfl) (fun _ _ _ h1 h2 => h2.trans h1)
    (fun r (p : Fin 4 × Nat) => splitGroup p.1 p.2 r) (fun l p => map_splitGroup k hk p.1 p.2 l) _ l

theorem splitGroup_keeps_within_need (g : Fin 4) (budget : Nat) (l : List Alloc) (h : ∀ a ∈ l, a.grant ≤ a.need) :
    ∀ a ∈ splitGroup g budget l, a.grant ≤ a.need := by
  intro a ha
  by_cases hg : a.v.group = g
  · exact splitGroup_grant_le_need g budget l a ((mem_inGroup g _ a).2 ⟨ha, hg⟩)
  · have hother : a ∈ (splitGroup g budget l).filter (fun a => a.v.group != g) :=
      List.mem_filter.2 ⟨ha, by simpa using hg⟩
    rw [filter_other_splitGroup] at hother
    exact h a (List.mem_of_mem_filter hother)

theorem splitGroups_keeps_within_need (budgets : List Nat) (l : List Alloc) :
    (∀ a ∈ l, a.grant ≤ a.need) → ∀ a ∈ splitGroups budgets l, a.grant ≤ a.need :=
  foldl_rel (fun l r : List Alloc => (∀ a ∈ l, a.grant ≤ a.need) → ∀ a ∈ r, a.grant ≤ a.need) (fun _ => id)
    (fun _ _ _ h1 h2 => h2 ∘ h1) (fun r (p : Fin 4 × Nat) => splitGroup p.1 p.2 r)
    (fun l p => splitGroup_keeps_within_need p.1 p.2 l) _ l

/-- The need of a vehicle stands through stage 6. -/
theorem splitGroups_need (x : Snapshot) (budgets : List Nat) (a : Alloc) (ha : a ∈ splitGroups budgets x.ordered) :
    a.need = x.need a.v := by
  have hmem : (a.v, a.need) ∈ (splitGroups budgets x.ordered).map (fun a => (a.v, a.need)) := List.mem_map_of_mem ha
  rw [map_splitGroups (fun a => (a.v, a.need)) (fun _ _ => rfl)] at hmem
  obtain ⟨b, hb, hab⟩ := List.mem_map.1 hmem
  obtain ⟨hv, hn⟩ := Prod.mk.inj hab
  rw [← hv, ← hn]
  exact (mem_ordered x b hb).1

theorem splitGroups_ordered_le_need (x : Snapshot) (budgets : List Nat) (a : Alloc)
    (ha : a ∈ splitGroups budgets x.ordered) : a.grant ≤ a.need :=
  splitGroups_keeps_within_need budgets x.ordered
    (fun b hb => (mem_ordered x b hb).2 ▸ Nat.zero_le b.need) a ha

/-- A vehicle's grant after the cut. -/
theorem cutSmall_eq_map (pMin : Nat) (l : List Alloc) :
    cutSmall pMin l = l.map (fun a => { a with grant := if pMin ≤ a.grant then a.grant else 0 }) := by
  refine List.map_congr_left fun a _ => ?_
  rcases Nat.lt_or_ge a.grant pMin with h | h
  · rw [if_neg (not_le.2 h)]
    split
    · rfl
    · have hzero : a.grant = 0 := by omega
      rw [← hzero]
  · rw [if_pos h, if_neg (by omega)]

theorem grantSum_cutSmall_le (pMin : Nat) (l : List Alloc) : grantSum (cutSmall pMin l) ≤ grantSum l := by
  rw [cutSmall_eq_map, grantSum_map]
  refine List.sum_le_sum fun a _ => ?_
  split <;> omega

/-- Settles O52: stage 6 keeps every grant within its need, and the cut acts vehicle by vehicle. -/
theorem smallGrantsCut : Obligations.SmallGrantsCut := by
  unfold Obligations.SmallGrantsCut
  refine ⟨fun x a ha => ?_, fun pMin l => ⟨List.length_map _, ?_, fun i a hi => ?_, grantSum_cutSmall_le pMin l⟩⟩
  · have hneed := splitGroups_ordered_le_need x _ a ha
    refine ⟨hneed, fun hs => hneed.trans ?_⟩
    rw [splitGroups_need x _ a ha]
    exact need_le_fallback x a.v hs
  · simp [cutSmall_eq_map]
  · rw [cutSmall_eq_map, List.getElem?_map, hi]
    rfl

end Sys2Proof.Machine
end

section
/-! SUPPORT. The attention line and its thresholds (R169, R170): the nearest step of 4, what asserts the line, and what a
posted urgent notice does to it. -/

namespace Sys2Proof.Machine

/-! ### The threshold steps (R170) -/

theorem attentionStep_isStep (n : Nat) : IsStep (attentionStep n) := by
  unfold IsStep Within attentionStep clamp
  omega

theorem attentionStep_of_le_four {n : Nat} (h : n ≤ 4) : attentionStep n = 4 := by
  unfold attentionStep clamp
  omega

theorem attentionStep_of_ge_last {n : Nat} (h : 32 ≤ n) : attentionStep n = 32 := by
  unfold attentionStep clamp
  omega

/-- A step takes the values from 2 below it, which is midway, to 1 above it. -/
theorem attentionStep_near {n : Nat} (hlo : 4 ≤ n) (hhi : n ≤ 32) :
    attentionStep n ≤ n + 2 ∧ n ≤ attentionStep n + 1 := by
  unfold attentionStep clamp
  omega

theorem attentionStep_of_isStep {n : Nat} (h : IsStep n) : attentionStep n = n := by
  obtain ⟨hmod, hlo, hhi⟩ := h
  obtain ⟨hmod', _, _⟩ := attentionStep_isStep n
  obtain ⟨hle, hge⟩ := attentionStep_near hlo hhi
  omega

/-- No step is nearer, and of two as near the higher is taken: another step stands at least 4 away. -/
theorem attentionStep_nearest {n u : Nat} (hu : IsStep u) (hlo : 4 ≤ n) (hhi : n ≤ 32) :
    max n (attentionStep n) - min n (attentionStep n) ≤ max n u - min n u ∧
    (max n (attentionStep n) - min n (attentionStep n) = max n u - min n u → u ≤ attentionStep n) := by
  obtain ⟨hmod, _, _⟩ := attentionStep_isStep n
  obtain ⟨humod, _, _⟩ := hu
  obtain ⟨hle, hge⟩ := attentionStep_near hlo hhi
  omega

/-! ### The attention line (R169) -/

theorem urgent_iff (k : NoticeKind) :
    k.urgent = true ↔ k ∈ ([.call, .callWithdrawn, .shuntNeeded, .lapsed, .mapConflict, .yardFull,
      .turnOverrun] : List NoticeKind) := by
  cases k <;> decide

theorem attention_iff (s : State) (p : PortId) :
    s.attention p = true ↔
      s.params.attention p < (s.port p).notices.length ∨ ∃ n ∈ (s.port p).notices, n.kind.urgent = true := by
  simp only [State.attention, Bool.or_eq_true, decide_eq_true_eq, List.any_eq_true]

theorem push_notices_of_room (n : Notice) (x : Port) (h : x.notices.length < 32) :
    (x.push n).notices = x.notices ++ [n] := by
  simp only [Port.push, if_pos h]

theorem port_post_single (p : PortId) (n : Notice) (s : State) : (s.post [p] n).port p = (s.port p).push n :=
  State.port_modPort_self p (Port.push n) s

theorem attention_post_urgent (p : PortId) (n : Notice) (s : State) (hu : n.kind.urgent = true)
    (hroom : (s.port p).notices.length < 32) : (s.post [p] n).attention p = true := by
  refine (attention_iff _ p).2 (.inr ⟨n, ?_, hu⟩)
  rw [port_post_single, push_notices_of_room n _ hroom]
  exact List.mem_append_right _ (List.mem_singleton_self n)

/-- A queue of at most 32 is never above a threshold of 32. -/
theorem urgent_of_attention_at_last (s : State) (p : PortId) (h32 : s.params.attention p = 32)
    (hlen : (s.port p).notices.length ≤ 32) (ha : s.attention p = true) :
    ∃ n ∈ (s.port p).notices, n.kind.urgent = true := by
  rcases (attention_iff s p).1 ha with habove | hurgent
  · omega
  · exact hurgent

/-- Settles O13: the steps by the bounds of `attentionStep_near`, the line by its two causes. -/
theorem attentionLine : Obligations.AttentionLine := by
  unfold Obligations.AttentionLine
  refine ⟨fun n => ⟨attentionStep_isStep n, attentionStep_of_isStep, attentionStep_of_le_four, attentionStep_of_ge_last,
    fun u hu hlo hhi => attentionStep_nearest hu hlo hhi⟩, fun s p => ⟨?_, rfl,
    fun n hu hroom => attention_post_urgent p n s hu hroom, urgent_of_attention_at_last s p⟩⟩
  simp only [attention_iff, urgent_iff]

end Sys2Proof.Machine
end
